-- ==== Sys2Proof/Word.lean ====
section
/-! DEFINITION. The word types of the block: a wire byte, an unsigned and a signed 16-bit entry (R7). -/

namespace Sys2Proof

/-- A wire byte, a window byte, a field latch, the valid channel count (R7). -/
abbrev Byte := BitVec 8

/-- An unsigned 16-bit value: a capture-buffer entry, a pulse width (R7, R60). -/
abbrev U16 := BitVec 16

/-- A signed 16-bit value in two's complement: an override (R7). Its sign is read with `BitVec.toInt`. -/
abbrev S16 := BitVec 16

end Sys2Proof
end

