-- ==== Sys2Proof/Config.lean ====
section
/-! DEFINITION. The parameters of one instance of the block (R5, R6). The source leaves four of them open, so the
instance the machine is built from rests on opaque constants: no proof can see which values they are. -/

namespace Sys2Proof

/-- The four open parameters of R5, fixed before reset and never changed by any operation. -/
structure Config where
  /-- N, the number of channels. -/
  n : Nat
  /-- MIN_PULSEWIDTH, microseconds. -/
  minPw : U16
  /-- MAX_PULSEWIDTH, microseconds. -/
  maxPw : U16
  /-- OVR_SENTINEL, the value SETOVR forces into the valid channel count. -/
  sentinel : Byte
  deriving DecidableEq, Repr

/-- The first marker byte, the character 'H' (R5, R51). PRESUMED ASCII, as the spec marks it (D2, G1); log entry 2.
unsafe if the character set is another. -/
def mark0 : Byte := 0x48

/-- The second marker byte, the character 'C' (R5, R51). PRESUMED ASCII, log entry 2. unsafe, as `mark0`. -/
def mark1 : Byte := 0x43

/-- Stands for N - 1 (D3: OPEN). Every value of the type gives a legal N (R6). Log entry 1; safe. -/
opaque Config.freeChannels : Fin 255

/-- One of the two clamp bounds (D4: OPEN). Log entry 1; safe. -/
opaque Config.freeBoundA : U16

/-- The other of the two clamp bounds (D4: OPEN). Log entry 1; safe. -/
opaque Config.freeBoundB : U16

/-- Stands for OVR_SENTINEL - 1 (D5: OPEN). Every value of the type gives a legal sentinel (R6). Log entry 1; safe. -/
opaque Config.freeSentinel : Fin 255

/-- The instance the machine is: any values the constraints of R6 admit, and no others. The smaller of the two free
bounds is MIN_PULSEWIDTH and the larger MAX_PULSEWIDTH. -/
def Config.instanceOf (channels : Fin 255) (a b : U16) (s : Fin 255) : Config where
  n := channels.val + 1
  minPw := if a ≤ b then a else b
  maxPw := if a ≤ b then b else a
  sentinel := BitVec.ofNat 8 (s.val + 1)

/-- The parameters of this machine (R5). -/
def Config.ofThisBlock : Config :=
  Config.instanceOf Config.freeChannels Config.freeBoundA Config.freeBoundB Config.freeSentinel

end Sys2Proof
end

