-- ==== Sys2Proof/Syntax.lean ====
section
/-! DEFINITION. The instructions: one constructor per row of spec/opcode_table.json, and the ports they travel on. -/

namespace Sys2Proof

/-- The interfaces of R21 and the two places where the internal steps stand. The spec's operations have no common
encoding space (R59): `1` is POLL on one port and INIT on another, so an encoding is read together with its port. -/
inductive Port where
  /-- The scan position of the byte stream: FRAME, its truncated forms and SKIP (R53). Internal to a poll. -/
  | wire
  /-- The poll trigger `poll_req` (R123). -/
  | pollReq
  /-- The consumer port with its 3-bit selectors (R59). -/
  | consumer
  /-- The value an internal step writes to LOCK (R59). Internal to READ and READN. -/
  | lock
  /-- The event `init_req` (R112). -/
  | initReq
  /-- The event `rst` (R140). -/
  | rst
  deriving DecidableEq, Repr

/-- An agent outside the block may raise an event on this port (R21); the two others are internal (R41, R53). -/
def Port.external : Port → Bool
  | .wire => false
  | .pollReq => true
  | .consumer => true
  | .lock => false
  | .initReq => true
  | .rst => true

/-- The instructions of spec/opcode_table.json, in the table's order. -/
inductive Instr where
  /-- FRAME: `48 43 cc hh ll` (R50). -/
  | frame (channelId highByte lowByte : Byte)
  /-- FRAME.T2: marker, `channel_id`, `high_byte`, then the queue is empty (R57). -/
  | frameT2 (channelId highByte : Byte)
  /-- FRAME.T1: marker, `channel_id`, then the queue is empty (R57). -/
  | frameT1 (channelId : Byte)
  /-- FRAME.T0: marker, then the queue is empty (R57). -/
  | frameT0
  /-- SKIP: one byte in scan position (R53). -/
  | skip (b : Byte)
  /-- POLL: the event `poll_req` (R70). -/
  | poll
  /-- NUMCH: selector 000 (R92). -/
  | numch
  /-- READ: selector 001 (R93). -/
  | read (channel : Byte)
  /-- READN: selector 010 (R94). -/
  | readn (maxLen : Byte)
  /-- SETOVR: selector 011 (R100). -/
  | setovr (channel : Byte) (value : S16)
  /-- SETOVRS: selector 100 (R101); `values` is `values[0..len-1]`. -/
  | setovrs (values : List S16) (len : Byte)
  /-- CLROVR: selector 101 (R102). -/
  | clrovr
  /-- CS_ENTER: LOCK <- 1, internal (R110). -/
  | csEnter
  /-- CS_EXIT: LOCK <- 0, internal (R111). -/
  | csExit
  /-- INIT: the event `init_req` (R112). -/
  | init
  /-- RESET: the event `rst` (R140). -/
  | reset
  deriving DecidableEq, Repr

/-- The port each instruction travels on (R59). -/
def Instr.port : Instr → Port
  | .frame _ _ _ => .wire
  | .frameT2 _ _ => .wire
  | .frameT1 _ => .wire
  | .frameT0 => .wire
  | .skip _ => .wire
  | .poll => .pollReq
  | .numch => .consumer
  | .read _ => .consumer
  | .readn _ => .consumer
  | .setovr _ _ => .consumer
  | .setovrs _ _ => .consumer
  | .clrovr => .consumer
  | .csEnter => .lock
  | .csExit => .lock
  | .init => .initReq
  | .reset => .rst

/-- The operations that are given a meaning only once INIT has completed (R38, R142, D17): the poll and the six
operations of the consumer port. The internal steps carry no condition of their own (log entry 12). -/
def Instr.needsInit : Instr → Bool
  | .frame _ _ _ => false
  | .frameT2 _ _ => false
  | .frameT1 _ => false
  | .frameT0 => false
  | .skip _ => false
  | .poll => true
  | .numch => true
  | .read _ => true
  | .readn _ => true
  | .setovr _ _ => true
  | .setovrs _ _ => true
  | .clrovr => true
  | .csEnter => false
  | .csExit => false
  | .init => false
  | .reset => false

end Sys2Proof
end

