-- ==== Sys2Proof/Decode.lean ====
section
/-! DEFINITION. The decoder, total on any bytes and rejecting by name, and the encoder, both from the same tables of
30_encoding.md (R50, R57, R59) and the encoding column of 95_test_vectors.md section 7. Encodings of the operations
are the spec's own labels (D18); the byte layout of an operation (selector byte, then its operands, a 16-bit value
high byte first) is a DESIGN CHOICE, log entry 4. -/

namespace Sys2Proof

/-- Why bytes on a port decode to no instruction. -/
inductive DecodeError where
  /-- No byte at all. -/
  | noBytes
  /-- A consumer-port selector that R59 leaves unassigned (110, 111) or that is wider than 3 bits. -/
  | unassignedSelector (b : Byte)
  /-- The bytes end before the operation's last operand. -/
  | missingOperand
  /-- A strobe byte other than the pattern `1` of an event (R59). -/
  | notAStrobe (b : Byte)
  /-- A byte on the lock port that is neither `1` nor `0` (R59). -/
  | notALockValue (b : Byte)
  /-- Bytes follow a whole instruction in one item. -/
  | trailingBytes
  deriving DecidableEq, Repr

/-- R52: `(zext_16(high) << 8) | zext_16(low)`. -/
def joinBytes (high low : Byte) : U16 :=
  (high.setWidth 16 <<< 8) ||| low.setWidth 16

/-- Bits [15:8] of a 16-bit value (R50). -/
def highByteOf (v : U16) : Byte := (v >>> 8).setWidth 8

/-- Bits [7:0] of a 16-bit value (R50). -/
def lowByteOf (v : U16) : Byte := v.setWidth 8

/-! ### The wire port -/

/-- The field bytes after a matched marker: exactly the next three that the stream supplies, or the truncated form
where it runs out (R53, R57). Answers the frame and the bytes that follow it. -/
def decodeFields : List Byte → Instr × List Byte
  | [] => (.frameT0, [])
  | [id] => (.frameT1 id, [])
  | [id, high] => (.frameT2 id high, [])
  | id :: high :: low :: rest => (.frame id high low, rest)

/-- The next wire unit of a stream in scan position, given the byte scanned before it (R53, R71). A byte 0x43 after a
scanned 0x48 completes a marker whose first byte was scanned earlier; `48 43` opens a frame; any other byte is a
SKIP. -/
def decodeWire (before : Byte) : List Byte → Except DecodeError (Instr × List Byte)
  | [] => .error .noBytes
  | b :: rest =>
    if before = mark0 ∧ b = mark1 then .ok (decodeFields rest)
    else if b = mark0 then
      match rest with
      | [] => .ok (.skip b, [])
      | b' :: rest' => if b' = mark1 then .ok (decodeFields rest') else .ok (.skip b, rest)
    else .ok (.skip b, rest)

/-- The newer window byte after a wire unit: a skipped byte itself, MARK1 after a frame (R76). -/
def windowAfter : Instr → Byte
  | .skip b => b
  | _ => mark1

/-- The wire units of a stream, found one after another; `fuel` bounds their number. -/
def wireUnitsUpTo : (fuel : Nat) → (before : Byte) → List Byte → List Instr
  | 0, _, _ => []
  | fuel + 1, before, bs =>
    match decodeWire before bs with
    | .ok (i, rest) => i :: wireUnitsUpTo fuel (windowAfter i) rest
    | .error _ => []

/-- What one poll finds in the bytes it consumes, in stream order (R53, R70): every unit takes at least one byte. -/
def wireUnits (before : Byte) (bs : List Byte) : List Instr :=
  wireUnitsUpTo bs.length before bs

/-! ### The consumer port -/

/-- `k` 16-bit values, each high byte first. -/
def takeValues : (k : Nat) → List Byte → Option (List S16 × List Byte)
  | 0, bs => some ([], bs)
  | k + 1, high :: low :: bs =>
    match takeValues k bs with
    | some (vs, rest) => some (joinBytes high low :: vs, rest)
    | none => none
  | _ + 1, _ => none

/-- An operation of the consumer port: the selector of R59 in the low bits of a byte whose other bits are 0, then the
operands of R60. -/
def decodeConsumer : List Byte → Except DecodeError (Instr × List Byte)
  | [] => .error .noBytes
  | sel :: rest =>
    if sel = 0 then .ok (.numch, rest)
    else if sel = 1 then
      match rest with
      | c :: rest' => .ok (.read c, rest')
      | [] => .error .missingOperand
    else if sel = 2 then
      match rest with
      | m :: rest' => .ok (.readn m, rest')
      | [] => .error .missingOperand
    else if sel = 3 then
      match rest with
      | c :: high :: low :: rest' => .ok (.setovr c (joinBytes high low), rest')
      | _ => .error .missingOperand
    else if sel = 4 then
      match rest with
      | len :: rest' =>
        match takeValues len.toNat rest' with
        | some (vs, rest'') => .ok (.setovrs vs len, rest'')
        | none => .error .missingOperand
      | [] => .error .missingOperand
    else if sel = 5 then .ok (.clrovr, rest)
    else .error (.unassignedSelector sel)

/-! ### Events and lock values -/

/-- An event: the one-bit pattern `1` (R59), held in a byte. -/
def decodeStrobe (i : Instr) : List Byte → Except DecodeError (Instr × List Byte)
  | [] => .error .noBytes
  | b :: rest => if b = 1 then .ok (i, rest) else .error (.notAStrobe b)

/-- The value an internal step writes to LOCK (R59). -/
def decodeLock : List Byte → Except DecodeError (Instr × List Byte)
  | [] => .error .noBytes
  | b :: rest =>
    if b = 1 then .ok (.csEnter, rest)
    else if b = 0 then .ok (.csExit, rest)
    else .error (.notALockValue b)

/-- The decoder: an instruction read from the front of the bytes on a port, and the bytes after it. An item of the
wire port stands alone, so no earlier byte is counted into its marker. -/
def decode : Port → List Byte → Except DecodeError (Instr × List Byte)
  | .wire, bs => decodeWire 0 bs
  | .pollReq, bs => decodeStrobe .poll bs
  | .consumer, bs => decodeConsumer bs
  | .lock, bs => decodeLock bs
  | .initReq, bs => decodeStrobe .init bs
  | .rst, bs => decodeStrobe .reset bs

/-- An instruction that takes up all the bytes given. -/
def decodeWhole (p : Port) (bs : List Byte) : Except DecodeError Instr :=
  match decode p bs with
  | .ok (i, []) => .ok i
  | .ok (_, _ :: _) => .error .trailingBytes
  | .error e => .error e

/-! ### The encoder -/

/-- The bytes of a 16-bit value, high byte first. -/
def encodeValue (v : S16) : List Byte := [highByteOf v, lowByteOf v]

/-- The bytes of an instruction on its port (R50, R57, R59). -/
def encode : Instr → List Byte
  | .frame id high low => [mark0, mark1, id, high, low]
  | .frameT2 id high => [mark0, mark1, id, high]
  | .frameT1 id => [mark0, mark1, id]
  | .frameT0 => [mark0, mark1]
  | .skip b => [b]
  | .poll => [1]
  | .numch => [0]
  | .read c => [1, c]
  | .readn m => [2, m]
  | .setovr c v => 3 :: c :: encodeValue v
  | .setovrs vs len => 4 :: len :: vs.flatMap encodeValue
  | .clrovr => [5]
  | .csEnter => [1]
  | .csExit => [0]
  | .init => [1]
  | .reset => [1]

/-! ### Words as the opcode table numbers them -/

/-- `k` bytes of a number, the most significant first: the table reads a wire row as one number with byte 0 most
significant (R50; DEDUCED, log entry 5). -/
def bytesOfNumber : (k : Nat) → (w : Nat) → List Byte
  | 0, _ => []
  | k + 1, w => BitVec.ofNat 8 (w / 256 ^ k) :: bytesOfNumber k w

/-- The port a bare word of the table is read on. The table gives the same word to several rows (`1` is POLL, READ,
CS_ENTER, INIT and RESET), and only the port tells them apart (R59). DESIGN CHOICE, log entry 4: 16 bits and more are
wire bytes; of one byte, the six assigned selectors are consumer-port operations and every other value is a wire byte;
a width of 3 bits names the consumer port and a width of 1 bit the strobe `1` of the poll trigger or the LOCK value
`0`. -/
def portOfTableWord (nbits w : Nat) : Port :=
  if nbits = 1 then (if w = 0 then .lock else .pollReq)
  else if nbits ≤ 3 then .consumer
  else if nbits ≤ 8 then (if w < 6 then .consumer else .wire)
  else .wire

/-- The bytes of a table word on its port. A consumer-port word of the table holds the selector alone; its operand
bytes are zeros (five cover the longest operand list of a zero `len`). A wire form ends where its row ends: what
follows it is the end of the poll. -/
def bytesOfTableWord (nbits w : Nat) : List Byte :=
  match portOfTableWord nbits w with
  | .consumer => BitVec.ofNat 8 w :: [0, 0, 0, 0, 0]
  | _ => bytesOfNumber ((nbits + 7) / 8) w

/-- The instruction and the bytes it takes up, of a table word. -/
def decodeTableBytes (nbits w : Nat) : Option (Instr × List Byte) :=
  match decode (portOfTableWord nbits w) (bytesOfTableWord nbits w) with
  | .ok (i, rest) => some (i, (bytesOfTableWord nbits w).take ((bytesOfTableWord nbits w).length - rest.length))
  | .error _ => none

/-- The instruction this decoder reads from a word of spec/opcode_table.json. -/
def decodeTableWord (nbits w : Nat) : Option Instr :=
  match decodeTableBytes nbits w with
  | some (i, _) => some i
  | none => none

end Sys2Proof
end

