-- ==== Sys2Proof/Machine/State.lean ====
section
/-! DEFINITION. The state of the machine as plain data, its outcomes, and the state after reset (R10 to R18, R140). -/

namespace Sys2Proof.Machine

/-- PH, the phase of the decoder inside one poll (R15, R80). -/
inductive Phase where
  | scan
  | id
  | hi
  | lo
  deriving DecidableEq, Repr

/-- What the environment may do at an instant (R129): append bytes to RXQ (R18), or raise the poll trigger (R123). -/
inductive EnvEvent where
  | rx (bs : List Byte)
  | pollReq
  deriving DecidableEq, Repr

/-- One line of the script notation (R62): the environment appends bytes, or an operation or event is raised on a
port by its encoding. -/
inductive Item where
  | rx (bs : List Byte)
  | op (port : Port) (bytes : List Byte)
  deriving DecidableEq, Repr

/-- The items an agent outside the block can raise (R21, R41): bytes for RXQ, and operations on the external ports. -/
def Item.external : Item → Bool
  | .rx _ => true
  | .op p _ => p.external

/-- What the consumer port hands back (R21, R60). -/
inductive Result where
  /-- NUMCH: the valid channel count. -/
  | count (v : Byte)
  /-- READ: a pulse width in microseconds, or 0 for a channel that does not exist. -/
  | pulse (v : U16)
  /-- READN: `out[0..n-1]` and the count (R94, D14). -/
  | batch (out : List U16) (count : Byte)
  /-- SETOVR and SETOVRS: whether an override was applied. -/
  | applied (b : Bool)
  /-- CLROVR: complete, no value. -/
  | done
  deriving DecidableEq, Repr

/-- The machine's state: the block's persistent registers (R10 to R14), the transient registers of one operation
(R15, R16), and the environment as the model holds it (R18, R123; log entries 3, 8, 10, 14). `cfg` holds the
parameters of R5, which no operation changes (log entry 1). -/
@[ext]
structure State where
  /-- The parameters of the instance (R5). -/
  cfg : Config
  /-- CB, the capture buffer: entry i is `CB[i]` (R10). -/
  cb : List U16
  /-- VCC, the valid channel count (R11). -/
  vcc : Byte
  /-- OVR, the override table: entry i is `OVR[i]` (R12). -/
  ovr : List S16
  /-- W1, the byte scanned before the last (R13). -/
  w1 : Byte
  /-- W0, the byte scanned last (R13). -/
  w0 : Byte
  /-- LOCK, set inside a critical section (R14). -/
  lock : Bool
  /-- INIT has completed (R38, R142). -/
  initDone : Bool
  /-- PH (R15). -/
  ph : Phase
  /-- F_ID (R15). -/
  fId : Byte
  /-- F_HI (R15). -/
  fHi : Byte
  /-- F_LO (R15). -/
  fLo : Byte
  /-- ANY: this poll has found a byte (R15). -/
  anyByte : Bool
  /-- SNAP, the snapshot of capture-buffer entries (R16). -/
  snap : List U16
  /-- SNAPV, the count sampled with it (R16). -/
  snapV : Byte
  /-- RXQ, the serial collaborator's queue, oldest byte first (R18). -/
  rxq : List Byte
  /-- A poll trigger the environment holds because it was raised while LOCK = 1 (R123). -/
  held : Bool
  /-- What the environment does at each successive preemption point inside a consumer operation (R125). -/
  agenda : List (List EnvEvent)
  /-- The events and operations still to come (R62). -/
  script : List Item
  /-- What the consumer port handed back last (R21). -/
  ret : Option Result
  deriving DecidableEq, Repr

/-- There is no fault: "No operation of the block can fail, trap, fault, stall or block" (R120). Nothing raises one;
that is safe, for a claim about a next state is a claim about the machine going on. -/
inductive Fault where
  deriving DecidableEq, Repr

/-- Where the model gives no meaning. -/
inductive Refusal where
  /-- Raised by exec's arm for an instruction without a meaning yet; every instruction has one. safe. -/
  | notModelled (mnemonic : String)
  /-- Raised by POLL and the six consumer operations before INIT has completed (R142, D17: refused). safe. -/
  | beforeInit
  /-- Raised by INIT when it has already completed (R112, D17: refused). safe. -/
  | secondInit
  /-- Raised by RESET once INIT has completed: the one reset event is at launch only (R142, D17: "no INIT and no reset
  transition afterwards"). safe. -/
  | resetAfterLaunch
  /-- Raised by a step whose item decodes to no operation, such as the selectors 110 and 111, which "cannot be
  issued" (R59, U18). safe. -/
  | undecodable (e : DecodeError)
  deriving DecidableEq, Repr

/-- The machine right after the reset event, for an instance with the given parameters: every persistent register as
R140 states it. INIT has not completed (R142). The transient registers, RXQ and the model's own fields have no reset
value in the spec: DESIGN CHOICE, log entries 3, 7, 8, 10 and 14. -/
def State.resetFor (c : Config) : State where
  cfg := c
  cb := List.replicate c.n 0
  vcc := 0
  ovr := List.replicate c.n 0
  w1 := 0
  w0 := 0
  lock := false
  initDone := false
  ph := .scan
  fId := 0
  fHi := 0
  fLo := 0
  anyByte := false
  snap := []
  snapV := 0
  rxq := []
  held := false
  agenda := []
  script := []
  ret := none

/-- The machine right after reset (R140), its parameters the open ones of R5. -/
def State.reset : State := State.resetFor Config.ofThisBlock

end Sys2Proof.Machine
end

