-- ==== Sys2Proof/Machine/Flags.lean ====
section
/-! DEFINITION. The block's flags: what writes the valid channel count, and the two predicates of R22. There are no
condition codes, no carry, overflow, zero or sign flags (R22). -/

namespace Sys2Proof.Machine

/-- R75: the count a poll leaves, N if it read at least one byte and 0 if it read none. -/
def countAfterPoll (c : Config) (anyByte : Bool) : Byte :=
  if anyByte then BitVec.ofNat 8 c.n else 0

/-- R100: the count after SETOVR stored `value`: the sentinel when it is not 0, otherwise as it was. -/
def countAfterOverride (c : Config) (value : S16) (old : Byte) : Byte :=
  if value ≠ 0 then c.sentinel else old

/-- FRESH, `VCC != 0` (R22, R122). -/
def State.fresh (s : State) : Bool := s.vcc != 0

/-- OVERRIDDEN(c), `OVR[c] != 0`; its negation is NORMAL(c) (R22, R103). An index that names no channel is not
overridden. -/
def State.overridden (s : State) (c : Nat) : Bool := s.ovr.getD c 0 != 0

end Sys2Proof.Machine
end

