-- ==== Sys2Proof/Machine/Operands.lean ====
section
/-! DEFINITION. The operand forms and the block's whole arithmetic: the marker test, the commit of a captured frame
into the capture buffer, the conversion pipeline and the reading of an override value. -/

namespace Sys2Proof.Machine

/-- The window equals the marker, read in stream order (R51, R71). -/
def markerAt (older newer : Byte) : Bool :=
  older == mark0 && newer == mark1

/-- R74: the two conditions under which a captured frame writes. The first is R56's (a zero payload is no measurement),
the second R54's and R55's (`channel_id` in 1..N). -/
def commits (n : Nat) (id high low : Byte) : Bool :=
  (high != 0 || low != 0) && decide (1 ≤ id.toNat) && decide (id.toNat ≤ n)

/-- R74: the capture buffer after a captured frame; entry `channel_id - 1` takes the raw value of R52, or nothing
changes. -/
def committed (n : Nat) (cb : List U16) (id high low : Byte) : List U16 :=
  if commits n id high low then cb.set (id.toNat - 1) (joinBytes high low) else cb

/-- `clamp(v, lo, hi)` of 00_scope.md section 6: saturating, never wrapping. -/
def clamp (v lo hi : U16) : U16 :=
  if v < lo then lo else if hi < v then hi else v

/-- PW, R90: a logical right shift by one of the unsigned raw value, then the clamp. -/
def pulseWidth (c : Config) (s : U16) : U16 :=
  clamp (s >>> 1) c.minPw c.maxPw

/-- OUT, R91: a non-zero override as it is stored, else the pulse width of the snapshot value. -/
def delivered (c : Config) (override : S16) (s : U16) : U16 :=
  if override ≠ 0 then override else pulseWidth c s

/-- READN's `n = min(max_len, N)` (R94). -/
def prefixLength (c : Config) (maxLen : Byte) : Nat :=
  min maxLen.toNat c.n

/-- The three readings of SETOVR's `value` (R61). -/
inductive OverrideValue where
  /-- Negative: a no-op. -/
  | negative
  /-- Zero: clear the override. -/
  | clear
  /-- Positive: apply the value. -/
  | apply
  deriving DecidableEq, Repr

/-- R61: "negative = no-op, zero = clear, positive = apply". -/
def readOverrideValue (v : S16) : OverrideValue :=
  if v.toInt < 0 then .negative else if v = 0 then .clear else .apply

end Sys2Proof.Machine
end

