-- ==== Sys2Proof/Machine/Ops.lean ====
section
/-! DEFINITION. The named operations the meanings are made of. The block takes no exception and returns from none
(R120, R127), so there is no operation for either; the nearest thing is the poll trigger (R123), `raisePoll`. -/

namespace Sys2Proof.Machine

/-! ### Entries of the two tables -/

/-- `CB[i]`. Every rule's guard keeps `i` below N (00_scope.md section 6); past the table the answer is 0, log entry
15. -/
def State.readCb (s : State) (i : Nat) : U16 := s.cb.getD i 0

/-- `OVR[i]`, as `readCb`. -/
def State.readOvr (s : State) (i : Nat) : S16 := s.ovr.getD i 0

/-- `OVR[i] <- v`. -/
def State.writeOvr (s : State) (i : Nat) (v : S16) : State := { s with ovr := s.ovr.set i v }

/-- Every entry of OVR to 0 (R102, R112). -/
def State.clearOvr (s : State) : State := { s with ovr := List.replicate s.cfg.n 0 }

/-! ### The decoder, byte by byte (R70) -/

/-- R71: shift the byte into the window, compare once after the shift, and on a match clear the three latches and go
to phase ID. -/
def State.scanByte (s : State) (b : Byte) : State :=
  if markerAt s.w0 b then
    { s with w1 := s.w0, w0 := b, fId := 0, fHi := 0, fLo := 0, ph := .id }
  else { s with w1 := s.w0, w0 := b, ph := .scan }

/-- R72: the first field byte is `channel_id`; it does not pass through the window (R76). -/
def State.takeId (s : State) (b : Byte) : State := { s with fId := b, ph := .hi }

/-- R72: the second field byte is `high_byte`. -/
def State.takeHigh (s : State) (b : Byte) : State := { s with fHi := b, ph := .lo }

/-- R74: the frame in the latches is committed or discarded, and the decoder returns to phase SCAN. -/
def State.commit (s : State) : State :=
  { s with cb := committed s.cfg.n s.cb s.fId s.fHi s.fLo, ph := .scan }

/-- R72: the third field byte is `low_byte`; the frame is then committed. -/
def State.takeLow (s : State) (b : Byte) : State := State.commit { s with fLo := b }

/-- The transition table of R80 for one byte read. -/
def State.pollByte (s : State) (b : Byte) : State :=
  match s.ph with
  | .scan => s.scanByte b
  | .id => s.takeId b
  | .hi => s.takeHigh b
  | .lo => s.takeLow b

/-- R73: the bytes have run out; a frame still open is committed with the latches as they stand. -/
def State.closeFrame (s : State) : State :=
  match s.ph with
  | .scan => s
  | .id => s.commit
  | .hi => s.commit
  | .lo => s.commit

/-! ### The poll (R70) -/

/-- Every poll starts in phase SCAN with ANY = 0 (R15). -/
def State.pollStart (s : State) : State := { s with ph := .scan, anyByte := false }

/-- `b <- read_byte()` leaves `rest` in RXQ and sets ANY (R70). -/
def State.byteRead (s : State) (rest : List Byte) : State := { s with rxq := rest, anyByte := true }

/-- The loop of R70 over the content of RXQ (R77). -/
def State.pollLoop : State → List Byte → State
  | s, [] => s
  | s, b :: rest => State.pollLoop ((s.byteRead rest).pollByte b) rest

/-- R75, the last action of a poll; the transient registers do not survive it (R15; DESIGN CHOICE that they return to
their values at reset, log entry 7). -/
def State.pollFinish (s : State) : State :=
  { s with
    vcc := countAfterPoll s.cfg s.anyByte
    ph := .scan, fId := 0, fHi := 0, fLo := 0, anyByte := false }

/-- One whole poll (R70): drain RXQ, close a frame cut short (R73), write VCC (R75). -/
def State.runPoll (s : State) : State :=
  (s.pollStart.pollLoop s.rxq).closeFrame.pollFinish

/-- The poll trigger fires (R123): the poll runs if LOCK = 0 and clears the trigger; while LOCK = 1 the environment
holds it, and triggers merge (R38). -/
def State.raisePoll (s : State) : State :=
  if s.lock then { s with held := true } else State.runPoll { s with held := false }

/-! ### The environment at a preemption point (R125, R129) -/

/-- RXQ with bytes appended at its tail (R18). -/
def State.receive (s : State) (bs : List Byte) : State := { s with rxq := s.rxq ++ bs }

/-- One act of the environment. -/
def State.envEvent (s : State) : EnvEvent → State
  | .rx bs => s.receive bs
  | .pollReq => s.raisePoll

/-- Acts of the environment, in order. -/
def State.envEvents : State → List EnvEvent → State
  | s, [] => s
  | s, e :: es => State.envEvents (s.envEvent e) es

/-- A point inside a consumer operation where the environment and, unless LOCK holds it off, the producer may act. The
agenda says what happens there; an empty agenda means that nothing does. Log entries 3 and 11. -/
def State.preempt (s : State) : State :=
  match s.agenda with
  | [] => s
  | es :: rest => State.envEvents { s with agenda := rest } es

/-! ### The critical section and the snapshot (R38, R39) -/

/-- LOCK <- 1 (R110). -/
def State.enterCs (s : State) : State := { s with lock := true }

/-- LOCK <- 0 (R111). -/
def State.exitCs (s : State) : State := { s with lock := false }

/-- SNAP <- the entries `CB[first]`, `CB[first + 1]`, ..., `count` of them (R93, R94). -/
def State.loadSnap (s : State) (first count : Nat) : State :=
  { s with snap := (List.range count).map (fun i => s.readCb (first + i)) }

/-- SNAPV <- VCC (R94, D13). -/
def State.loadSnapV (s : State) : State := { s with snapV := s.vcc }

/-- One critical section around the loads of a snapshot (R39), with the two points where the environment may act: while
LOCK = 1 it can only append bytes or have a trigger held (R38), and after CS_EXIT a poll may take effect before the
consumer's next step (R111, R125). Log entry 11. -/
def State.inCriticalSection (s : State) (loads : State → State) : State :=
  (loads s.enterCs.preempt).exitCs.preempt

/-- The snapshot does not survive its operation (R16; DESIGN CHOICE that it returns to its value at reset, log entry
7). -/
def State.dropSnap (s : State) : State := { s with snap := [], snapV := 0 }

/-- The operation completes and hands a result to its caller (R21). -/
def State.handBack (s : State) (r : Result) : State := { s with ret := some r }

/-! ### Overrides (R100) -/

/-- SETOVR's effect on the state (R100): nothing for a negative value or a channel that does not exist; else the value
is stored and, if it is not 0, VCC forced to the sentinel. -/
def State.override (s : State) (channel : Nat) (value : S16) : State :=
  match readOverrideValue value with
  | .negative => s
  | .clear => if s.cfg.n ≤ channel then s else s.writeOvr channel value
  | .apply =>
    if s.cfg.n ≤ channel then s
    else { s.writeOvr channel value with vcc := countAfterOverride s.cfg value s.vcc }

/-- SETOVR's result (R100): true exactly when a non-zero value was stored. -/
def State.overrideApplied (s : State) (channel : Nat) (value : S16) : Bool :=
  match readOverrideValue value with
  | .negative => false
  | .clear => false
  | .apply => decide (channel < s.cfg.n)

/-- The element steps of SETOVRS from position `i` on (R101), and the results OR-ed onto `r`. Between two of them the
producer may act (R40, R150). -/
def State.overrideEach : State → (i : Nat) → List S16 → (r : Bool) → State × Bool
  | s, _, [], r => (s, r)
  | s, i, [v], r => (s.override i v, r || s.overrideApplied i v)
  | s, i, v :: v' :: vs, r =>
    State.overrideEach (s.override i v).preempt (i + 1) (v' :: vs) (r || s.overrideApplied i v)

/-! ### Launch premises (R142) and the script (R62) -/

/-- An operation that is given a meaning only once INIT has completed (R38, R142, D17). -/
def whenReady (s : State) (t : State) : Host.Outcome State Fault Refusal :=
  if s.initDone then .next t else .refused .beforeInit

/-- The block's registers at their reset values (R140), the parameters and the environment as they were. -/
def State.systemStart (s : State) : State :=
  { State.resetFor s.cfg with
    rxq := s.rxq
    held := s.held
    agenda := s.agenda
    script := s.script }

/-- What the next item of the script is. -/
inductive Fetched where
  /-- The script is at its end. -/
  | idle
  /-- Bytes arrive in RXQ. -/
  | arrived (s : State)
  /-- An instruction, and the state with its item taken off the script. -/
  | run (i : Instr) (s : State)
  /-- An item that decodes to no instruction. -/
  | bad (e : DecodeError)
  deriving Repr

/-- Takes the next item off the script and decodes it on its port. -/
def fetch (s : State) : Fetched :=
  match s.script with
  | [] => .idle
  | .rx bs :: rest => .arrived (State.receive { s with script := rest } bs)
  | .op p bs :: rest =>
    match decodeWhole p bs with
    | .ok i => .run i { s with script := rest }
    | .error e => .bad e

/-- Nothing is left on the script: a held trigger is honoured as soon as it may be (R38: "not lost"), and otherwise
the resident block waits (R142). Log entries 10 and 17. -/
def State.wait (s : State) : State :=
  if s.held && !s.lock && s.initDone then s.raisePoll else s

/-- The item that holds a word of spec/opcode_table.json. -/
def itemOfTableWord (nbits w : Nat) : Item :=
  match decodeTableBytes nbits w with
  | some (_, bs) => .op (portOfTableWord nbits w) bs
  | none => .op (portOfTableWord nbits w) (bytesOfTableWord nbits w)

/-- The machine with that item next, and past INIT if its instruction asks for it (log entry 3). -/
def State.withItem (s : State) (nbits w : Nat) : State :=
  { s with
    script := itemOfTableWord nbits w :: s.script
    initDone := s.initDone || (decodeTableWord nbits w).any Instr.needsInit }

end Sys2Proof.Machine
end

