-- ==== Sys2Proof/Machine/Override.lean ====
section
/-! DEFINITION. The override operations of the consumer port (42_override.md): SETOVR, SETOVRS, CLROVR. -/

namespace Sys2Proof.Machine

/-- SETOVR (R100). -/
def execSetovr (channel : Byte) (value : S16) (s : State) : Host.Outcome State Fault Refusal :=
  whenReady s ((s.override channel.toNat value).handBack (.applied (s.overrideApplied channel.toNat value)))

/-- SETOVRS (R101): SETOVR for each of `values[0..len-1]` in order, none left out after a true result. -/
def execSetovrs (values : List S16) (len : Byte) (s : State) : Host.Outcome State Fault Refusal :=
  whenReady s
    ((s.overrideEach 0 (values.take len.toNat) false).1.handBack
      (.applied (s.overrideEach 0 (values.take len.toNat) false).2))

/-- CLROVR (R102). -/
def execClrovr (s : State) : Host.Outcome State Fault Refusal :=
  whenReady s (s.clearOvr.handBack .done)

end Sys2Proof.Machine
end

