-- ==== Sys2Proof/Machine/Producer.lean ====
section
/-! DEFINITION. The producer's one operation, POLL (40_frame_decoder.md section 1). -/

namespace Sys2Proof.Machine

/-- POLL (R70): enabled when LOCK = 0 and INIT has completed; raised while LOCK = 1 it is held, not lost (R38). -/
def execPoll (s : State) : Host.Outcome State Fault Refusal :=
  whenReady s s.raisePoll

end Sys2Proof.Machine
end

