-- ==== Sys2Proof/Machine/Reader.lean ====
section
/-! DEFINITION. The read operations of the consumer port (41_channel_reader.md): NUMCH, READ, READN. -/

namespace Sys2Proof.Machine

/-- NUMCH (R92): one read of VCC, outside any critical section. -/
def execNumch (s : State) : Host.Outcome State Fault Refusal :=
  whenReady s (s.handBack (.count s.vcc))

/-- READ after its critical section (R93): the override or the pulse width of `SNAP[0]`. -/
def State.handBackPulse (s : State) (channel : Nat) : State :=
  (s.handBack (.pulse (delivered s.cfg (s.readOvr channel) (s.snap.getD 0 0)))).dropSnap

/-- READ (R93). -/
def execRead (channel : Byte) (s : State) : Host.Outcome State Fault Refusal :=
  whenReady s
    (if s.cfg.n ≤ channel.toNat then s.handBack (.pulse 0)
     else (s.inCriticalSection (fun t => t.loadSnap channel.toNat 1)).handBackPulse channel.toNat)

/-- READN after its critical section (R94): `out[i] = OUT(i, SNAP[i])` for i = 0..n-1, and SNAPV. -/
def State.handBackBatch (s : State) (n : Nat) : State :=
  (s.handBack (.batch ((List.range n).map (fun i => delivered s.cfg (s.readOvr i) (s.snap.getD i 0))) s.snapV)).dropSnap

/-- READN (R94). -/
def execReadn (maxLen : Byte) (s : State) : Host.Outcome State Fault Refusal :=
  whenReady s
    ((s.inCriticalSection (fun t => (t.loadSnap 0 (prefixLength s.cfg maxLen)).loadSnapV)).handBackBatch
      (prefixLength s.cfg maxLen))

end Sys2Proof.Machine
end

