-- ==== Sys2Proof/Machine/System.lean ====
section
/-! DEFINITION. The system operations (43_system.md) and the reset event (R140): CS_ENTER, CS_EXIT, INIT, RESET. -/

namespace Sys2Proof.Machine

/-- CS_ENTER (R110). -/
def execCsEnter (s : State) : Host.Outcome State Fault Refusal :=
  .next s.enterCs

/-- CS_EXIT (R111). -/
def execCsExit (s : State) : Host.Outcome State Fault Refusal :=
  .next s.exitCs

/-- INIT (R112): the Init collaborator's call has no effect on the block's state (R132); OVR is zeroed; from here on
operations have a meaning. A second INIT is refused (D17). -/
def execInit (s : State) : Host.Outcome State Fault Refusal :=
  if s.initDone then .refused .secondInit else .next { s.clearOvr with initDone := true }

/-- RESET (R140): every piece of the block's state at its reset value; the parameters are not affected, and neither is
what belongs to the environment (R18, R123). It is the event at launch; once INIT has completed there is "no reset
transition afterwards" (R142, D17), and it is refused. Log entry 13. -/
def execReset (s : State) : Host.Outcome State Fault Refusal :=
  if s.initDone then .refused .resetAfterLaunch else .next s.systemStart

end Sys2Proof.Machine
end

