-- ==== Sys2Proof/Machine/Wire.lean ====
section
/-! DEFINITION. What a poll finds in the stream (40_frame_decoder.md sections 2 and 3): FRAME, its three truncated
forms, and SKIP. They are internal to a poll; RXQ and ANY are the poll loop's (R70). -/

namespace Sys2Proof.Machine

/-- The two marker bytes scanned one after the other (R51, R71): the window matches, the latches are cleared. -/
def State.scanMarker (s : State) : State := (s.scanByte mark0).scanByte mark1

/-- FRAME (R72, R74): marker, three field bytes, commit. -/
def execFrame (channelId highByte lowByte : Byte) (s : State) : Host.Outcome State Fault Refusal :=
  .next (((s.scanMarker.takeId channelId).takeHigh highByte).takeLow lowByte)

/-- FRAME.T2 (R73): `low_byte` is missing and keeps the 0 it was given at the marker. -/
def execFrameT2 (channelId highByte : Byte) (s : State) : Host.Outcome State Fault Refusal :=
  .next ((s.scanMarker.takeId channelId).takeHigh highByte).closeFrame

/-- FRAME.T1 (R73): the payload is missing; nothing is written. -/
def execFrameT1 (channelId : Byte) (s : State) : Host.Outcome State Fault Refusal :=
  .next (s.scanMarker.takeId channelId).closeFrame

/-- FRAME.T0 (R73): all three fields are missing; nothing is written. -/
def execFrameT0 (s : State) : Host.Outcome State Fault Refusal :=
  .next s.scanMarker.closeFrame

/-- SKIP (R71): one byte is scanned. On a byte that completes the marker, which a poll never hands to SKIP, the rule's
match applies (log entry 6). -/
def execSkip (b : Byte) (s : State) : Host.Outcome State Fault Refusal :=
  .next (s.scanByte b)

end Sys2Proof.Machine
end

