-- ==== Sys2Proof/Machine/Dispatch.lean ====
section
/-! DEFINITION. One arm per instruction. -/

namespace Sys2Proof.Machine

/-- The meaning of each instruction. -/
def exec (i : Instr) (s : State) : Host.Outcome State Fault Refusal :=
  match i with
  | .frame channelId highByte lowByte => Sys2Proof.Machine.execFrame channelId highByte lowByte s
  | .frameT2 channelId highByte => Sys2Proof.Machine.execFrameT2 channelId highByte s
  | .frameT1 channelId => Sys2Proof.Machine.execFrameT1 channelId s
  | .frameT0 => Sys2Proof.Machine.execFrameT0 s
  | .skip b => Sys2Proof.Machine.execSkip b s
  | .poll => Sys2Proof.Machine.execPoll s
  | .numch => Sys2Proof.Machine.execNumch s
  | .read channel => Sys2Proof.Machine.execRead channel s
  | .readn maxLen => Sys2Proof.Machine.execReadn maxLen s
  | .setovr channel value => Sys2Proof.Machine.execSetovr channel value s
  | .setovrs values len => Sys2Proof.Machine.execSetovrs values len s
  | .clrovr => Sys2Proof.Machine.execClrovr s
  | .csEnter => Sys2Proof.Machine.execCsEnter s
  | .csExit => Sys2Proof.Machine.execCsExit s
  | .init => Sys2Proof.Machine.execInit s
  | .reset => Sys2Proof.Machine.execReset s

end Sys2Proof.Machine
end

