-- ==== Sys2Proof/Machine/Step.lean ====
section
/-! DEFINITION. One step of the machine: the next item of the script, decoded on its port and executed. -/

namespace Sys2Proof.Machine

/-- One transition of the total order of R36. -/
def step (s : State) : Host.Outcome State Fault Refusal :=
  match fetch s with
  | .idle => .next s.wait
  | .arrived t => .next t
  | .run i t => exec i t
  | .bad e => .refused (.undecodable e)

/-- The state with an instruction, given as a word of spec/opcode_table.json, next on the script (log entry 3). -/
def State.withFetchWord (s : State) (nbits w : Nat) : State := s.withItem nbits w

end Sys2Proof.Machine
end

