-- ==== Sys2Proof/WellFormed.lean ====
section
/-! DEFINITION. What makes an instruction, and a choice of parameters, well formed. -/

namespace Sys2Proof

/-- R60 gives every operand a width and admits every value of that width; the types hold the widths. The one relation
left to check is that SETOVRS's `len` counts its `values[0..len-1]` (R101). -/
def Instr.wf : Instr → Bool
  | .frame _ _ _ => true
  | .frameT2 _ _ => true
  | .frameT1 _ => true
  | .frameT0 => true
  | .skip _ => true
  | .poll => true
  | .numch => true
  | .read _ => true
  | .readn _ => true
  | .setovr _ _ => true
  | .setovrs values len => values.length == len.toNat
  | .clrovr => true
  | .csEnter => true
  | .csExit => true
  | .init => true
  | .reset => true

/-- The constraints of R6 on the parameters: `1 <= N <= 255`, `MIN_PULSEWIDTH <= MAX_PULSEWIDTH` (both 16 bits by
their type) and a non-zero sentinel (8 bits by its type). -/
def Config.wf (c : Config) : Bool :=
  decide (1 ≤ c.n) && decide (c.n ≤ 255) && decide (c.minPw ≤ c.maxPw) && decide (c.sentinel ≠ 0)

end Sys2Proof
end

