-- ==== Sys2Proof/Safety.lean ====
section
/-! DEFINITION. What the claims are stated with: the invariant of R19, the functional form of the poll (R78), READ and
READN as single transitions (R40), and runs of several instructions. -/

namespace Sys2Proof.Machine

/-! ### The invariant -/

/-- No operation is in progress: the transient registers hold their values at reset (R15, R16, R19 d). -/
structure State.AtRest (s : State) : Prop where
  ph : s.ph = .scan
  fId : s.fId = 0
  fHi : s.fHi = 0
  fLo : s.fLo = 0
  anyByte : s.anyByte = false
  snap : s.snap = []
  snapV : s.snapV = 0

/-- Every item still on the script can be raised from outside the block (R21, R41): none is an internal step. -/
def State.scriptExternal (s : State) : Bool := s.script.all Item.external

/-- R19, with the shape of the tables (R10, R12) and the constraints on the parameters (R6). -/
structure State.Inv (s : State) : Prop where
  cfg : s.cfg.wf = true
  cbLength : s.cb.length = s.cfg.n
  ovrLength : s.ovr.length = s.cfg.n
  vcc : s.vcc = 0 ∨ s.vcc = BitVec.ofNat 8 s.cfg.n ∨ s.vcc = s.cfg.sentinel
  ovr : ∀ v ∈ s.ovr, 0 ≤ v.toInt
  lock : s.lock = false
  rest : s.AtRest
  script : s.scriptExternal = true

/-! ### The poll as a function (R78) -/

/-- The frame of R78: `cb[id - 1 := hi * 256 + lo]` under the guard. -/
def pollFunctionWrite (n : Nat) (cb : List U16) (id high low : Byte) : List U16 :=
  if (high ≠ 0 ∨ low ≠ 0) ∧ 1 ≤ id.toNat ∧ id.toNat ≤ n then
    cb.set (id.toNat - 1) (BitVec.ofNat 16 (high.toNat * 256 + low.toNat))
  else cb

/-- `scan` of R78 with W1 beside W0: the window (older, newer) and the capture buffer after the bytes. -/
def pollFunction (n : Nat) : (w1 w0 : Byte) → List U16 → List Byte → Byte × Byte × List U16
  | w1, w0, cb, [] => (w1, w0, cb)
  | _, w0, cb, b :: rest =>
    if w0 = mark0 ∧ b = mark1 then
      match rest with
      | [] => (w0, b, pollFunctionWrite n cb 0 0 0)
      | [id] => (w0, b, pollFunctionWrite n cb id 0 0)
      | [id, high] => (w0, b, pollFunctionWrite n cb id high 0)
      | id :: high :: low :: rest' => pollFunction n w0 b (pollFunctionWrite n cb id high low) rest'
    else pollFunction n w0 b cb rest

/-- The state that R78's function gives a poll: VCC from emptiness alone, RXQ drained, OVR and LOCK untouched. -/
def State.polledByFunction (s : State) : State :=
  { s with
    w1 := (pollFunction s.cfg.n s.w1 s.w0 s.cb s.rxq).1
    w0 := (pollFunction s.cfg.n s.w1 s.w0 s.cb s.rxq).2.1
    cb := (pollFunction s.cfg.n s.w1 s.w0 s.cb s.rxq).2.2
    vcc := if s.rxq = [] then 0 else BitVec.ofNat 8 s.cfg.n
    rxq := [] }

/-- Bytes that end outside the three field bytes of a frame, when a poll that starts at `s` reads them (R79 c). -/
def State.endsBetweenUnits (s : State) (bs : List Byte) : Prop := (s.pollStart.pollLoop bs).ph = .scan

/-- A wire unit that commits entry `i` (R74): no other unit of a poll writes it. -/
def unitWrites (n : Nat) (i : Nat) : Instr → Bool
  | .frame id high low => commits n id high low && decide (id.toNat = i + 1)
  | .frameT2 id high => commits n id high 0 && decide (id.toNat = i + 1)
  | _ => false

/-! ### The environment -/

/-- The bytes an act of the environment appends to RXQ (R18). -/
def EnvEvent.arriving : EnvEvent → List Byte
  | .rx bs => bs
  | .pollReq => []

/-! ### Reads as single transitions (R40) -/

/-- OUT(c, CB[c]) of the state as it stands (R91, R93). -/
def State.out (s : State) (c : Nat) : U16 := delivered s.cfg (s.readOvr c) (s.readCb c)

/-- READ of an existing channel as one transition (R40, R93). -/
def State.readNow (s : State) (c : Nat) : State := { s with ret := some (.pulse (s.out c)) }

/-- READN as one transition (R40, R94). -/
def State.readnNow (s : State) (n : Nat) : State :=
  { s with ret := some (.batch ((List.range n).map s.out) s.vcc) }

/-- What the environment and the producer do around one critical section, no load among it. -/
def State.aroundCs (s : State) : State := s.inCriticalSection id

/-! ### Runs of instructions -/

/-- Instructions executed one after another, up to the first that does not answer a next state. -/
def execAll : List Instr → State → Host.Outcome State Fault Refusal
  | [], s => .next s
  | i :: is, s =>
    match exec i s with
    | .next t => execAll is t
    | .fault r => .fault r
    | .refused r => .refused r

/-- SETOVR's effect for each element of a list from channel `i` on, with nothing in between (R101). -/
def State.overrideAll : State → (i : Nat) → List S16 → State
  | s, _, [] => s
  | s, i, v :: vs => State.overrideAll (s.override i v) (i + 1) vs

/-- Some element is positive and at a position that names a channel (R101). -/
def someApplied (n : Nat) : (i : Nat) → List S16 → Bool
  | _, [] => false
  | i, v :: vs => (decide (0 < v.toInt) && decide (i < n)) || someApplied n (i + 1) vs

end Sys2Proof.Machine
end

