-- ==== Sys2Proof/Certificates/Slice0/Obligations.lean ====
section
/-! DEFINITION. The statements for the provers. Each docstring names the rules of spec/ it formalises; where a clause is
the model's own choice it names the log entry (notes/assumptions/<n>.md). -/

open Sys2Proof Sys2Proof.Machine

/-! ### Encoding -/

/-- The encoder and the decoder agree on every well-formed instruction of every port, at every value of every operand
(30_encoding.md sections 1 and 5). -/
def Obligations.DecodeOfEncodeIsTheInstruction : Prop :=
  ∀ i : Instr, i.wf = true → decode i.port (encode i) = .ok (i, [])

/-- Each encoding has one meaning: whatever the decoder accepts is the encoding of what it answers, followed by the
bytes it leaves, on that instruction's port, and well formed (R50, R57, R59). -/
def Obligations.EncodeOfDecodeIsTheBytes : Prop :=
  ∀ (p : Port) (bs : List Byte) (i : Instr) (rest : List Byte),
    decode p bs = .ok (i, rest) → encode i ++ rest = bs ∧ i.port = p ∧ i.wf = true

/-- The wire encodings written out from R50 and R57. The encodings of the operations have the values of R59 and the
operand order of 95_test_vectors.md section 7; that a selector, a strobe and a LOCK value are each held in a whole byte,
with a 16-bit value high byte first, is the model's choice, log entry 4. -/
def Obligations.WrittenOutEncodingsDecode : Prop :=
  decodeWhole .wire [0x48, 0x43, 0x01, 0x02, 0x03] = .ok (.frame 0x01 0x02 0x03) ∧
  decodeWhole .wire [0x48, 0x43, 0x03, 0x0B] = .ok (.frameT2 0x03 0x0B) ∧
  decodeWhole .wire [0xB8] = .ok (.skip 0xB8) ∧
  decodeWhole .consumer [0x02, 0xC8] = .ok (.readn 200) ∧
  decodeWhole .consumer [0x03, 0x00, 0x04, 0xD2] = .ok (.setovr 0 1234) ∧
  decodeWhole .consumer [0x04, 0x03, 0x00, 0x05, 0xFF, 0xFF, 0x00, 0x00] = .ok (.setovrs [5, -1, 0] 3) ∧
  decodeWhole .pollReq [0x01] = .ok .poll ∧
  decodeWhole .lock [0x00] = .ok .csExit

/-- The selectors 110 and 111, and everything wider than 3 bits, name no operation of the consumer port (R59). That
a selector is held in a whole byte is the model's choice, log entry 4. -/
def Obligations.UnassignedSelectorsAreRejected : Prop :=
  ∀ (sel : Byte) (rest : List Byte),
    6 ≤ sel.toNat → decode .consumer (sel :: rest) = .error (.unassignedSelector sel)

/-- No byte of a stream is lost or read twice by the division into wire units (R53): their encodings, joined, are the
stream. Where the stream opens by completing a marker whose first byte was scanned before it, the first unit's encoding
begins with that earlier byte, and so does what the encodings join to. -/
def Obligations.WireUnitsCoverTheStream : Prop :=
  ∀ (before : Byte) (bs : List Byte),
    (¬(before = mark0 ∧ bs.head? = some mark1) → (wireUnits before bs).flatMap encode = bs) ∧
    ((before = mark0 ∧ bs.head? = some mark1) → (wireUnits before bs).flatMap encode = before :: bs)

/-! ### The step -/

/-- A step runs the instruction its item decodes to, with that item taken off the script (log entry 3). -/
def Obligations.StepRunsTheDecodedInstruction : Prop :=
  ∀ (s : State) (p : Port) (bs : List Byte) (rest : List Item) (i : Instr),
    s.script = .op p bs :: rest → decodeWhole p bs = .ok i → step s = exec i { s with script := rest }

/-- Arriving bytes go to the tail of RXQ and nothing else of the block changes (R18). -/
def Obligations.ArrivingBytesJoinTheQueue : Prop :=
  ∀ (s : State) (bs : List Byte) (rest : List Item),
    s.script = .rx bs :: rest → step s = .next { s with script := rest, rxq := s.rxq ++ bs }

/-- With nothing left on the script a held trigger is honoured as soon as LOCK = 0, and otherwise the block waits
(R38, R142). That a held trigger waits for the script's end unless the script raises a poll is the model's choice, log
entries 10 and 17. -/
def Obligations.IdleStepHonoursAHeldTrigger : Prop :=
  ∀ s : State, s.script = [] →
    ((s.held = true ∧ s.lock = false ∧ s.initDone = true) → step s = exec .poll s) ∧
    (¬(s.held = true ∧ s.lock = false ∧ s.initDone = true) → step s = .next s)

/-- An item that decodes to no operation stops the step by name and does nothing (R59, U18). -/
def Obligations.UndecodableItemsAreRefusedByName : Prop :=
  ∀ (s : State) (p : Port) (bs : List Byte) (rest : List Item) (e : DecodeError),
    s.script = .op p bs :: rest → decodeWhole p bs = .error e → step s = .refused (.undecodable e)

/-! ### What a poll finds in the stream -/

/-- SKIP: the window shifts and is compared once after the shift (R71); nothing else changes. The branch of a byte that
completes the marker, which is no SKIP of the wire (30_encoding.md section 7), is the model's choice, log entry 6: there
the match of R71 is taken, so the latches are cleared and phase ID begins. -/
def Obligations.SkipShiftsAndComparesTheWindow : Prop :=
  ∀ (s : State) (b : Byte),
    exec (.skip b) s =
      .next
        (if s.w0 = 0x48 ∧ b = 0x43 then
          { s with w1 := s.w0, w0 := b, fId := 0, fHi := 0, fLo := 0, ph := .id }
        else { s with w1 := s.w0, w0 := b, ph := .scan })

/-- FRAME: the window holds the marker, the three fields are latched, and `CB[channel_id - 1]` takes
`(high << 8) | low` when the payload is not zero and the id is in 1..N; nothing else changes (R52, R72, R74, R76). The
upper guard `id <= N` is the spec's own decision D10, and that the window still holds the marker afterwards its decision
D7 (log entry 9). -/
def Obligations.FrameCapturesAndCommits : Prop :=
  ∀ (s : State) (id high low : Byte),
    exec (.frame id high low) s =
      .next
        { s with
          w1 := 0x48, w0 := 0x43, fId := id, fHi := high, fLo := low, ph := .scan
          cb :=
            if (high ≠ 0 ∨ low ≠ 0) ∧ 1 ≤ id.toNat ∧ id.toNat ≤ s.cfg.n then
              s.cb.set (id.toNat - 1) ((high.setWidth 16 <<< 8) ||| low.setWidth 16)
            else s.cb }

/-- R74, with the spec's upper guard (D10): a captured frame writes its entry, all 16 bits of it and never 0, if and
only if the payload is not zero and the id is in 1..N; then every other entry stays, and otherwise every entry stays.
Beside the entry nothing but the window, the latches and the phase is written; that the window still holds the marker is
the spec's decision D7 (log entry 9). -/
def Obligations.CommitWritesExactlyOneEntryOrNone : Prop :=
  ∀ (s : State) (id high low : Byte), s.cb.length = s.cfg.n →
    ∃ t, exec (.frame id high low) s = .next t ∧
      (if (high ≠ 0 ∨ low ≠ 0) ∧ 1 ≤ id.toNat ∧ id.toNat ≤ s.cfg.n then
        t.readCb (id.toNat - 1) = ((high.setWidth 16 <<< 8) ||| low.setWidth 16) ∧
        (t.readCb (id.toNat - 1)).toNat = high.toNat * 256 + low.toNat ∧
        t.readCb (id.toNat - 1) ≠ 0 ∧
        (∀ i, i ≠ id.toNat - 1 → t.readCb i = s.readCb i)
      else t.cb = s.cb) ∧
      t = { s with w1 := 0x48, w0 := 0x43, fId := id, fHi := high, fLo := low, ph := .scan, cb := t.cb }

/-- R54, R56: a frame whose `channel_id` is 0, or whose payload is zero whatever its `channel_id`, leaves the capture
buffer as it was; it is consumed like any other frame. That the window still holds the marker afterwards is the spec's
decision D7 (R76; log entry 9). -/
def Obligations.ReservedFramesWriteNothing : Prop :=
  ∀ (s : State) (id high low : Byte),
    (id = 0 ∨ (high = 0 ∧ low = 0)) →
      exec (.frame id high low) s =
        .next { s with w1 := 0x48, w0 := 0x43, fId := id, fHi := high, fLo := low, ph := .scan }

/-- The spec's own decisions D10 (R55) and, for the window, D7 (R76), log entry 9: a frame whose `channel_id` is above N
leaves the capture buffer as it was; it is consumed like any other frame. -/
def Obligations.FramesAboveTheLastChannelWriteNothing : Prop :=
  ∀ (s : State) (id high low : Byte),
    s.cfg.n < id.toNat →
      exec (.frame id high low) s =
        .next { s with w1 := 0x48, w0 := 0x43, fId := id, fHi := high, fLo := low, ph := .scan }

/-- R73: a frame cut short is committed with zeros for the missing bytes. FRAME.T2 acts as the full frame with a zero
low byte; FRAME.T1 and FRAME.T0 write no entry. The zero-fill is the spec's choice C1 (D8), the upper guard D10 and the
window D7 (log entry 9). -/
def Obligations.TruncatedFramesAreZeroFilled : Prop :=
  ∀ (s : State) (id high : Byte),
    exec (.frameT2 id high) s =
      .next
        { s with
          w1 := 0x48, w0 := 0x43, fId := id, fHi := high, fLo := 0, ph := .scan
          cb :=
            if high ≠ 0 ∧ 1 ≤ id.toNat ∧ id.toNat ≤ s.cfg.n then s.cb.set (id.toNat - 1) (high.setWidth 16 <<< 8)
            else s.cb } ∧
    exec (.frameT1 id) s =
      .next { s with w1 := 0x48, w0 := 0x43, fId := id, fHi := 0, fLo := 0, ph := .scan } ∧
    exec .frameT0 s = .next { s with w1 := 0x48, w0 := 0x43, fId := 0, fHi := 0, fLo := 0, ph := .scan }

/-! ### The poll -/

/-- R78: the byte-by-byte poll of R70 computes the function of R78 (`pollFunction`), in every state with LOCK = 0. R78
holds the spec's decisions D6 to D10 (log entry 9). The last line, the transient registers' values after it, is the
model's choice (log entry 7), as is `held` (log entry 10). -/
def Obligations.PollComputesTheFunction : Prop :=
  ∀ s : State, s.initDone = true → s.lock = false →
    exec .poll s =
      .next
        { s.polledByFunction with
          held := false, ph := .scan, fId := 0, fHi := 0, fLo := 0, anyByte := false }

/-- A poll is the execution, one by one, of the instructions its bytes decode to, then the write of VCC (R53, R57,
R70 to R77): the decoder's FRAME, FRAME.T2, FRAME.T1, FRAME.T0 and SKIP are all there is in a poll. That these can be
executed on their own, what `pollFinish` leaves in the transient registers, and `held` are the model's choices, log
entries 6, 7 and 10. -/
def Obligations.PollExecutesTheUnitsOfTheStream : Prop :=
  ∀ s : State, s.initDone = true → s.lock = false →
    ∃ u,
      execAll (wireUnits s.w0 s.rxq)
        { s with ph := .scan, rxq := [], anyByte := !s.rxq.isEmpty, held := false } = .next u ∧
      exec .poll s = .next u.pollFinish

/-- R75: a poll leaves VCC at N if it read at least one byte, whatever the bytes, and at 0 if there was none; then it
changes no entry and not the window, which keeps its value across polls by the spec's decision D6 (R13; log entry
9). -/
def Obligations.PollCountSaysWhetherAnyByteCame : Prop :=
  ∀ s : State, s.initDone = true → s.lock = false →
    ∃ t, exec .poll s = .next t ∧ t.rxq = [] ∧
      (s.rxq ≠ [] → t.vcc = BitVec.ofNat 8 s.cfg.n) ∧
      (s.rxq = [] → t.vcc = 0 ∧ t.cb = s.cb ∧ t.w1 = s.w1 ∧ t.w0 = s.w0)

/-- R79 b, e: an entry that no committed frame of the poll names is unchanged, and so are OVR, LOCK, the parameters,
the script and the consumer's last result. -/
def Obligations.PollChangesOnlyTheEntriesItsFramesName : Prop :=
  ∀ s : State, s.initDone = true → s.lock = false →
    ∃ t, exec .poll s = .next t ∧
      (∀ i, (∀ u ∈ wireUnits s.w0 s.rxq, unitWrites s.cfg.n i u = false) → t.readCb i = s.readCb i) ∧
      t.ovr = s.ovr ∧ t.lock = s.lock ∧ t.cfg = s.cfg ∧ t.initDone = s.initDone ∧ t.snap = s.snap ∧
      t.snapV = s.snapV ∧ t.agenda = s.agenda ∧ t.script = s.script ∧ t.ret = s.ret

/-- R79 c, its sufficient half: two polls whose boundary does not fall inside the field bytes of a frame leave the
capture buffer and the window that one poll over all the bytes leaves. It rests on the window keeping its value between
polls, the spec's decision D6 (log entry 9). -/
def Obligations.SplitPollsAgreeWithOnePoll : Prop :=
  ∀ (s : State) (xs ys : List Byte), s.initDone = true → s.lock = false → s.endsBetweenUnits xs →
    ∃ t u v,
      exec .poll { s with rxq := xs } = .next t ∧ exec .poll { t with rxq := ys } = .next u ∧
      exec .poll { s with rxq := xs ++ ys } = .next v ∧ u.cb = v.cb ∧ u.w1 = v.w1 ∧ u.w0 = v.w0

/-- R79 a: whatever came before it in the poll, and whatever comes after it that commits nothing to the same entry
(noise, frames for other channels, discarded and truncated frames), the last frame with a non-zero payload and a valid
id determines its entry. That the bytes after the frame are scanned from a window that holds its marker is the spec's
decision D7 (log entry 9). -/
def Obligations.LastFrameOfAPollWins : Prop :=
  ∀ (s : State) (xs ys : List Byte) (id high low : Byte),
    s.initDone = true → s.lock = false → s.cb.length = s.cfg.n →
    s.rxq = xs ++ [0x48, 0x43, id, high, low] ++ ys → s.endsBetweenUnits xs →
    (high ≠ 0 ∨ low ≠ 0) → 1 ≤ id.toNat → id.toNat ≤ s.cfg.n →
    (∀ u ∈ wireUnits 0x43 ys, unitWrites s.cfg.n (id.toNat - 1) u = false) →
      ∃ t, exec .poll s = .next t ∧ (t.readCb (id.toNat - 1)).toNat = high.toNat * 256 + low.toNat

/-- R12, R78: a poll neither reads nor writes OVR, and does not read the old VCC. -/
def Obligations.PollIgnoresOverridesAndOldCount : Prop :=
  ∀ (s : State) (o : List S16) (v : Byte), s.initDone = true → s.lock = false →
    ∃ t, exec .poll s = .next t ∧ exec .poll { s with ovr := o, vcc := v } = .next { t with ovr := o }

/-- R38: a poll raised while LOCK = 1 is held, and changes nothing else. -/
def Obligations.PollRaisedUnderLockIsHeld : Prop :=
  ∀ s : State, s.initDone = true → s.lock = true → exec .poll s = .next { s with held := true }

/-- R38: while LOCK = 1, whatever the environment does, no byte leaves RXQ and nothing of the block changes: exactly
the arriving bytes join the tail of RXQ, in their order, and a trigger is held. -/
def Obligations.NothingOfTheBlockChangesUnderLock : Prop :=
  ∀ (s : State) (es : List EnvEvent), s.lock = true →
    s.envEvents es =
      { s with
        rxq := s.rxq ++ es.flatMap EnvEvent.arriving
        held := s.held || es.any (fun e => decide (e = .pollReq)) }

/-! ### The consumer's reads -/

/-- R92: NUMCH returns VCC unchanged, which in every state with the invariant of R19 is 0, N or the sentinel, and has
no side effect. -/
def Obligations.NumchReturnsTheCount : Prop :=
  ∀ s : State, s.initDone = true →
    exec .numch s = .next { s with ret := some (.count s.vcc) } ∧
    (s.Inv → s.vcc = 0 ∨ s.vcc = BitVec.ofNat 8 s.cfg.n ∨ s.vcc = s.cfg.sentinel)

/-- R90: the pulse width is half the raw value, rounded down and clamped between the two bounds, both inclusive. That
the raw value is unsigned and the shift logical is the spec's own decision D11 (log entry 9). -/
def Obligations.PulseWidthIsTheClampedHalf : Prop :=
  ∀ (c : Config) (s : U16), c.wf = true →
    (pulseWidth c s).toNat = max c.minPw.toNat (min c.maxPw.toNat (s.toNat / 2)) ∧
    c.minPw ≤ pulseWidth c s ∧ pulseWidth c s ≤ c.maxPw

/-- R93: READ of a channel that does not exist returns 0 and touches no state. READ of an existing one returns the
non-zero override as it is stored, else the clamped half of the captured value AS IT STOOD AT THE CRITICAL SECTION,
whatever the environment and the producer do during the operation (at the points of log entry 11); with nothing
happening beside it, it changes no persistent state. That the shift is logical is the spec's decision D11 (log entry
9). -/
def Obligations.ReadDeliversOverrideOrPulseWidth : Prop :=
  ∀ (s : State) (c : Byte), s.initDone = true →
    (s.cfg.n ≤ c.toNat → exec (.read c) s = .next { s with ret := some (.pulse 0) }) ∧
    (c.toNat < s.cfg.n →
      ∃ t, exec (.read c) s = .next t ∧
        t.ret = some (.pulse
          (if s.readOvr c.toNat ≠ 0 then s.readOvr c.toNat
           else clamp (s.readCb c.toNat >>> 1) s.cfg.minPw s.cfg.maxPw)) ∧
        (s.agenda = [] → t = { s with ret := t.ret, lock := false, snap := t.snap, snapV := t.snapV }))

/-- R94: READN returns OUT of the prefix 0..min(max_len, N)-1 and VCC, all as they stood at ONE instant, whatever the
environment and the producer do during the operation (at the points of log entry 11); with nothing happening beside
it, it changes no persistent state. That VCC is sampled at that instant is the spec's decision D13, and that the shift
is logical its decision D11 (log entry 9). -/
def Obligations.ReadnDeliversThePrefixOfOneInstant : Prop :=
  ∀ (s : State) (m : Byte), s.initDone = true →
    ∃ t, exec (.readn m) s = .next t ∧
      t.ret = some (.batch
        ((List.range (min m.toNat s.cfg.n)).map (fun i =>
          if s.readOvr i ≠ 0 then s.readOvr i else clamp (s.readCb i >>> 1) s.cfg.minPw s.cfg.maxPw))
        s.vcc) ∧
      (s.agenda = [] → t = { s with ret := t.ret, lock := false, snap := t.snap, snapV := t.snapV })

/-- R40: READ and READN, with polls held off inside the critical section and admitted after it, act as ONE transition
placed at the critical section: the read itself, then what the environment and the producer do. Where inside the
operation they may act is read from R36, R38 and R111 by inference (DEDUCED, log entry 11); that the snapshot registers
are empty before and after is the model's choice, log entry 7. -/
def Obligations.ReadsActAsOneTransition : Prop :=
  ∀ s : State, s.initDone = true → s.lock = false → s.snap = [] → s.snapV = 0 →
    (∀ c : Byte, c.toNat < s.cfg.n → exec (.read c) s = .next (s.readNow c.toNat).aroundCs) ∧
    (∀ m : Byte, exec (.readn m) s = .next (s.readnNow (min m.toNat s.cfg.n)).aroundCs)

/-- The source's property on `len > N` (S5, R94): a READN of more than N channels is a READN of N. -/
def Obligations.ReadnOfMoreThanNIsReadnOfN : Prop :=
  ∀ (s : State) (m : Byte), s.cfg.wf = true → s.cfg.n ≤ m.toNat →
    exec (.readn m) s = exec (.readn (BitVec.ofNat 8 s.cfg.n)) s

/-- R34: with nothing happening beside them, NUMCH, READ and READN change nothing but the caller's result, and
repeating one gives the same result. (That the snapshot registers are empty again is the model's choice, log entry
7.) -/
def Obligations.ReadsAreRepeatable : Prop :=
  ∀ (s : State) (i : Instr), (i = .numch ∨ (∃ c, i = .read c) ∨ ∃ m, i = .readn m) →
    s.initDone = true → s.lock = false → s.agenda = [] → s.snap = [] → s.snapV = 0 →
      ∃ t, exec i s = .next t ∧ { t with ret := s.ret } = s ∧ exec i t = .next t

/-- R38: a trigger raised inside a READ's critical section is not lost and takes nothing from RXQ meanwhile; once the
READ has returned and the script is at its end, the next step is that poll. When a held poll runs is the model's choice
(log entry 10), and where inside the READ the environment acts is DEDUCED (log entry 11). -/
def Obligations.TriggerInsideAReadRunsAfterIt : Prop :=
  ∀ (s : State) (c : Byte) (bs : List Byte),
    s.initDone = true → s.script = [] → s.agenda = [[.rx bs, .pollReq]] → c.toNat < s.cfg.n →
      ∃ t, exec (.read c) s = .next t ∧ t.held = true ∧ t.lock = false ∧ t.cb = s.cb ∧ t.vcc = s.vcc ∧
        t.rxq = s.rxq ++ bs ∧ step t = exec .poll t

/-! ### Overrides -/

/-- R100: a negative value, or a channel that does not exist, changes nothing and returns false; 0 is stored and
returns false; a positive value is stored, forces VCC to the sentinel and returns true. Nothing else changes. -/
def Obligations.SetovrStoresAndForcesTheCount : Prop :=
  ∀ (s : State) (c : Byte) (v : S16), s.initDone = true →
    exec (.setovr c v) s =
      .next
        (if v.toInt < 0 ∨ s.cfg.n ≤ c.toNat then { s with ret := some (.applied false) }
         else if v = 0 then { s with ovr := s.ovr.set c.toNat 0, ret := some (.applied false) }
         else
          { s with ovr := s.ovr.set c.toNat v, vcc := s.cfg.sentinel, ret := some (.applied true) })

/-- R101: with nothing happening between its elements, SETOVRS is SETOVR of each element in order, on channel 0, 1, 2,
..., and its result is true if some element was positive at a position below N. -/
def Obligations.SetovrsIsSetovrOfEachElement : Prop :=
  ∀ (s : State) (vs : List S16) (len : Byte), s.initDone = true → s.agenda = [] → vs.length = len.toNat →
    ∃ t, execAll (vs.zipIdx.map (fun p => .setovr (BitVec.ofNat 8 p.2) p.1)) s = .next t ∧
      exec (.setovrs vs len) s = .next { t with ret := some (.applied (someApplied s.cfg.n 0 vs)) }

/-- R150: the overrides that SETOVRS leaves and the result it returns are the same whatever the environment and the
producer do between its elements; and if it returns true, VCC is the sentinel, N or 0. -/
def Obligations.SetovrsOverridesDoNotDependOnPolls : Prop :=
  ∀ (s : State) (vs : List S16) (len : Byte) (a : List (List EnvEvent)), s.initDone = true →
    ∃ t u, exec (.setovrs vs len) { s with agenda := a } = .next t ∧
      exec (.setovrs vs len) { s with agenda := [] } = .next u ∧
      t.ovr = u.ovr ∧ t.ret = u.ret ∧
      (t.ret = some (.applied true) →
        t.vcc = s.cfg.sentinel ∨ t.vcc = BitVec.ofNat 8 s.cfg.n ∨ t.vcc = 0)

/-- R40, R150 (the outcomes of VI2): a poll between the two elements of SETOVRS leaves N (or 0, on an empty queue)
where without it the sentinel stays. -/
def Obligations.PollBetweenElementsReplacesTheSentinel : Prop :=
  ∀ (s : State) (v : S16), s.initDone = true → s.lock = false → 1 ≤ s.cfg.n → 0 < v.toInt →
    (∃ t, exec (.setovrs [v, 0] 2) { s with agenda := [[.pollReq]] } = .next t ∧
      t.ret = some (.applied true) ∧ t.vcc = (if s.rxq = [] then 0 else BitVec.ofNat 8 s.cfg.n)) ∧
    (∃ t, exec (.setovrs [v, 0] 2) { s with agenda := [] } = .next t ∧
      t.ret = some (.applied true) ∧ t.vcc = s.cfg.sentinel)

/-- R102: CLROVR puts 0 in every entry of OVR, so that every channel is NORMAL, and changes neither CB nor VCC nor
anything else. -/
def Obligations.ClrovrMakesEveryChannelNormal : Prop :=
  ∀ s : State, s.initDone = true →
    ∃ t, exec .clrovr s = .next t ∧ t = { s with ovr := List.replicate s.cfg.n 0, ret := some .done } ∧
      ∀ c, t.overridden c = false

/-- R103, the whole table of a channel c < N, with the rules it draws together: SETOVR by the sign of its value with its
effect on VCC and its result; SETOVRS, which does the same to the override of the channel of each element, whatever
happens beside it; CLROVR; INIT, which puts every channel in NORMAL; and every other operation, and SETOVR of another
channel, which leave the channel's override and state as they were. That element i of SETOVRS goes to channel i is the
spec's own decision D21 (R101; log entry 9). -/
def Obligations.EveryChannelFollowsTheOverrideTable : Prop :=
  ∀ (s : State) (c : Byte), s.ovr.length = s.cfg.n → c.toNat < s.cfg.n →
    (s.overridden c.toNat = true ↔ s.readOvr c.toNat ≠ 0) ∧
    (∀ v : S16, s.initDone = true →
      ∃ t, exec (.setovr c v) s = .next t ∧
        (if v.toInt < 0 then
          t.overridden c.toNat = s.overridden c.toNat ∧ t.readOvr c.toNat = s.readOvr c.toNat ∧ t.vcc = s.vcc ∧
            t.ret = some (.applied false)
        else if v = 0 then
          t.overridden c.toNat = false ∧ t.readOvr c.toNat = 0 ∧ t.vcc = s.vcc ∧ t.ret = some (.applied false)
        else
          t.overridden c.toNat = true ∧ t.readOvr c.toNat = v ∧ t.vcc = s.cfg.sentinel ∧
            t.ret = some (.applied true))) ∧
    (∀ (vs : List S16) (len : Byte), s.initDone = true → vs.length = len.toNat →
      ∃ t, exec (.setovrs vs len) s = .next t ∧
        t.readOvr c.toNat =
          (match vs[c.toNat]? with
          | some v => if v.toInt < 0 then s.readOvr c.toNat else v
          | none => s.readOvr c.toNat)) ∧
    (s.initDone = true →
      ∃ t, exec .clrovr s = .next t ∧ t.overridden c.toNat = false ∧ t.readOvr c.toNat = 0 ∧ t.vcc = s.vcc ∧
        t.ret = some .done) ∧
    (s.initDone = false → ∃ t, exec .init s = .next t ∧ t.overridden c.toNat = false) ∧
    (∀ (t : State) (i : Instr),
      (∀ v, i ≠ .setovr c v) → (∀ vs len, i ≠ .setovrs vs len) → i ≠ .clrovr → i ≠ .init → i ≠ .reset →
      exec i s = .next t →
        t.readOvr c.toNat = s.readOvr c.toNat ∧ t.overridden c.toNat = s.overridden c.toNat)

/-- The source's property (S4): after CLROVR, READ of every channel gives the pulse width of its captured value. -/
def Obligations.ReadAfterClrovrIsThePulseWidth : Prop :=
  ∀ (s : State) (c : Byte), s.initDone = true → c.toNat < s.cfg.n →
    ∃ t u, exec .clrovr s = .next t ∧ exec (.read c) t = .next u ∧
      u.ret = some (.pulse (pulseWidth s.cfg (s.readCb c.toNat)))

/-- R147, R153: an empty poll erases the sentinel that SETOVR wrote, although the override is in force and READ still
returns it, unclamped. -/
def Obligations.EmptyPollErasesTheSentinelButNotTheOverride : Prop :=
  ∀ (s : State) (c : Byte) (v : S16),
    s.initDone = true → s.lock = false → s.rxq = [] → s.ovr.length = s.cfg.n → c.toNat < s.cfg.n → 0 < v.toInt →
      ∃ t u w, exec (.setovr c v) s = .next t ∧ t.vcc = s.cfg.sentinel ∧ exec .poll t = .next u ∧ u.vcc = 0 ∧
        exec (.read c) u = .next w ∧ w.ret = some (.pulse v)

/-! ### System operations and reset -/

/-- R110, R111: CS_ENTER sets LOCK and CS_EXIT clears it; neither changes anything else. -/
def Obligations.CriticalSectionStepsSetAndClearLock : Prop :=
  ∀ s : State,
    exec .csEnter s = .next { s with lock := true } ∧ exec .csExit s = .next { s with lock := false }

/-- R112: INIT zeroes the override table and completes the initialisation, and a second INIT is refused (D17). -/
def Obligations.InitZeroesOverridesOnce : Prop :=
  ∀ s : State,
    (s.initDone = false →
      exec .init s = .next { s with ovr := List.replicate s.cfg.n 0, initDone := true }) ∧
    (s.initDone = true → exec .init s = .refused .secondInit)

/-- R140: the reset event, at launch, puts CB, VCC, OVR, W1:W0 and LOCK at 0 and does not affect the parameters; the
state every run starts from has the same values. OVR, the window and LOCK are the spec's decisions D6 and D17 (log entry
9). -/
def Obligations.ResetZeroesThePersistentState : Prop :=
  (∀ s : State, s.initDone = false → ∃ t, exec .reset s = .next t ∧
    t.cb = List.replicate s.cfg.n 0 ∧ t.vcc = 0 ∧ t.ovr = List.replicate s.cfg.n 0 ∧
    t.w1 = 0 ∧ t.w0 = 0 ∧ t.lock = false ∧ t.cfg = s.cfg) ∧
  State.reset.cb = List.replicate State.reset.cfg.n 0 ∧ State.reset.vcc = 0 ∧
  State.reset.ovr = List.replicate State.reset.cfg.n 0 ∧ State.reset.w1 = 0 ∧ State.reset.w0 = 0 ∧
  State.reset.lock = false

/-- R142 (D17; log entry 13): once INIT has completed there is no reset transition; RESET is refused by name. -/
def Obligations.ResetAfterLaunchIsRefused : Prop :=
  ∀ s : State, s.initDone = true → exec .reset s = .refused .resetAfterLaunch

/-- The model's choice (log entries 7, 12, 13 and 14), beside R140: RESET leaves INIT still to come, no operation in
progress and no result, and touches nothing of the environment. -/
def Obligations.ResetLeavesTheEnvironmentAlone : Prop :=
  ∀ s : State, s.initDone = false → ∃ t, exec .reset s = .next t ∧
    t.AtRest ∧ t.initDone = false ∧ t.ret = none ∧
    t.rxq = s.rxq ∧ t.held = s.held ∧ t.agenda = s.agenda ∧ t.script = s.script

/-- R141: reset, then INIT, gives the launch state, for every choice of the parameters and every content of RXQ; in it
NUMCH returns 0, every channel is NORMAL, and READ returns MIN_PULSEWIDTH for a channel below N and 0 for any other. -/
def Obligations.LaunchStateReadsAsEmpty : Prop :=
  ∀ (c : Config) (q : List Byte), c.wf = true →
    ∃ t, exec .init { State.resetFor c with rxq := q } = .next t ∧
      t.cb = List.replicate c.n 0 ∧ t.ovr = List.replicate c.n 0 ∧ t.vcc = 0 ∧ t.w1 = 0 ∧ t.w0 = 0 ∧
      t.lock = false ∧ t.rxq = q ∧ t.fresh = false ∧ (∀ ch, t.overridden ch = false) ∧
      (∃ u, exec .numch t = .next u ∧ u.ret = some (.count 0)) ∧
      (∀ ch : Byte, ∃ u, exec (.read ch) t = .next u ∧
        u.ret = some (.pulse (if ch.toNat < c.n then c.minPw else 0)))

/-- R142, D17: before INIT has completed the poll and the six consumer operations are refused. -/
def Obligations.OperationsBeforeInitAreRefused : Prop :=
  ∀ (s : State) (i : Instr), i.needsInit = true → s.initDone = false → exec i s = .refused .beforeInit

/-! ### The machine as a whole -/

/-- R120: every operation is total. Whatever the state and the operands, an instruction answers a next state, but for
the launch premises of R142: INIT before the operations, and afterwards no INIT and no reset. -/
def Obligations.OnlyTheLaunchPremisesStopAnInstruction : Prop :=
  ∀ (s : State) (i : Instr),
    ((i.needsInit = true → s.initDone = true) ∧ ((i = .init ∨ i = .reset) → s.initDone = false)) ↔
      ∃ t, exec i s = .next t

/-- R142, R10 (and N32: no way to return CB to zero): once launched the block stays launched, and an entry that is not 0
stays so, over every step, whatever the script holds and the environment does. -/
def Obligations.NoStepReturnsALaunchedBlockToReset : Prop :=
  ∀ s t : State, s.initDone = true → step s = .next t →
    t.initDone = true ∧ ∀ ch, s.readCb ch ≠ 0 → t.readCb ch ≠ 0

/-- R19: every step keeps the invariant, whatever the script and the environment do. -/
def Obligations.EveryStepKeepsTheInvariant : Prop :=
  ∀ s t : State, s.Inv → step s = .next t → t.Inv

/-- The invariant holds at reset (R19, R140). The transient registers' values there are the model's choice, log entry
7. -/
def Obligations.ResetHasTheInvariant : Prop := State.reset.Inv

/-- R5: no step changes the parameters. -/
def Obligations.NoStepChangesTheParameters : Prop :=
  ∀ s t : State, step s = .next t → t.cfg = s.cfg

/-- R10: once a frame has been committed for a channel its entry is never 0 again, until the reset event. -/
def Obligations.CapturedEntriesNeverReturnToZero : Prop :=
  ∀ (s t : State) (i : Instr) (ch : Nat),
    i ≠ .reset → exec i s = .next t → s.readCb ch ≠ 0 → t.readCb ch ≠ 0

/-- R10, R129: by itself no operation of the consumer, no step of the critical section and not INIT changes CB, the
window, RXQ or the held trigger: with nothing of the environment or the producer beside it, they stay. -/
def Obligations.OnlyTheProducerWritesItsState : Prop :=
  ∀ (s t : State) (i : Instr),
    (i.port = .consumer ∨ i.port = .lock ∨ i.port = .initReq) → s.agenda = [] → exec i s = .next t →
      t.cb = s.cb ∧ t.w1 = s.w1 ∧ t.w0 = s.w0 ∧ t.rxq = s.rxq ∧ t.held = s.held ∧
      (t.vcc = s.vcc ∨ t.vcc = s.cfg.sentinel)

/-- R103: nothing but SETOVR, SETOVRS, CLROVR, INIT and RESET changes an override: no producer step, no read, no
critical section, whatever happens beside it. -/
def Obligations.OnlyOverrideOperationsChangeOverrides : Prop :=
  ∀ (s t : State) (i : Instr),
    (∀ c v, i ≠ .setovr c v) → (∀ vs len, i ≠ .setovrs vs len) → i ≠ .clrovr → i ≠ .init → i ≠ .reset →
    exec i s = .next t → t.ovr = s.ovr

/-- R19 a: without SETOVR and SETOVRS the count is 0 or N, "never a partial count": every other instruction keeps it
so, whatever happens beside it. -/
def Obligations.CountIsNeverPartialWithoutOverrides : Prop :=
  ∀ (s t : State) (i : Instr),
    (∀ c v, i ≠ .setovr c v) → (∀ vs len, i ≠ .setovrs vs len) →
    (s.vcc = 0 ∨ s.vcc = BitVec.ofNat 8 s.cfg.n) → exec i s = .next t →
      t.vcc = 0 ∨ t.vcc = BitVec.ofNat 8 s.cfg.n
end

