-- ==== Sys2Proof/Laws/Decode.lean ====
section
/-! SUPPORT. The bit-field helpers of the decoder and the encoder, and the parameters' constraints. -/

namespace Sys2Proof

@[simp] theorem highByteOf_joinBytes (high low : Byte) : highByteOf (joinBytes high low) = high := by
  ext i hi
  simp only [highByteOf, joinBytes, BitVec.getElem_setWidth, BitVec.getLsbD_ushiftRight, BitVec.getLsbD_or,
    BitVec.getLsbD_shiftLeft, BitVec.getLsbD_setWidth]
  simp [hi, show 8 + i < 16 by omega, show i < 16 by omega]

@[simp] theorem lowByteOf_joinBytes (high low : Byte) : lowByteOf (joinBytes high low) = low := by
  ext i hi
  simp only [lowByteOf, joinBytes, BitVec.getElem_setWidth, BitVec.getLsbD_or, BitVec.getLsbD_shiftLeft,
    BitVec.getLsbD_setWidth]
  simp [hi, show i < 16 by omega]

@[simp] theorem joinBytes_highByteOf_lowByteOf (v : U16) : joinBytes (highByteOf v) (lowByteOf v) = v := by
  ext i hi
  simp only [highByteOf, lowByteOf, joinBytes, BitVec.getElem_or, BitVec.getElem_shiftLeft,
    BitVec.getElem_setWidth, BitVec.getLsbD_setWidth, BitVec.getLsbD_ushiftRight]
  rcases Nat.lt_or_ge i 8 with h | h
  · simp [h, BitVec.getLsbD_eq_getElem hi]
  · simp [show ¬ i < 8 by omega, show i - 8 < 8 by omega, show 8 + (i - 8) = i by omega,
      BitVec.getLsbD_eq_getElem hi]

/-- R52 as numbers: the raw value is `high_byte * 256 + low_byte`. -/
theorem joinBytes_toNat (high low : Byte) : (joinBytes high low).toNat = high.toNat * 256 + low.toNat := by
  have hh := high.isLt
  have hl := low.isLt
  have e : (joinBytes high low).toNat = (high.toNat <<< 8 % 65536) ||| low.toNat := by
    simp [joinBytes, BitVec.toNat_or, BitVec.toNat_shiftLeft, BitVec.toNat_setWidth,
      Nat.mod_eq_of_lt (show high.toNat < 65536 by omega), Nat.mod_eq_of_lt (show low.toNat < 65536 by omega)]
  rw [e, Nat.mod_eq_of_lt (by rw [Nat.shiftLeft_eq]; omega), ← Nat.shiftLeft_add_eq_or_of_lt hl, Nat.shiftLeft_eq]

/-- A raw value is 0 exactly when both its bytes are (R56). -/
theorem joinBytes_eq_zero (high low : Byte) : joinBytes high low = 0 ↔ high = 0 ∧ low = 0 := by
  rw [← BitVec.toNat_inj, joinBytes_toNat, ← BitVec.toNat_inj, ← BitVec.toNat_inj]
  simp

theorem decodeWhole_ok {p : Port} {bs : List Byte} {i : Instr} :
    decodeWhole p bs = .ok i ↔ decode p bs = .ok (i, []) := by
  unfold decodeWhole
  split <;> simp_all

/-- Whatever the open parameters are, they meet the constraints of R6. -/
theorem ofThisBlock_wf : Config.ofThisBlock.wf = true := by
  have hs := Config.freeSentinel.isLt
  have h0 : BitVec.ofNat 8 (Config.freeSentinel.val + 1) ≠ 0 := by
    intro h
    have := congrArg BitVec.toNat h
    simp at this
    omega
  have hb : ∀ a b : U16, (if a ≤ b then a else b) ≤ (if a ≤ b then b else a) := by
    intro a b
    split <;> bv_omega
  simp [Config.wf, Config.ofThisBlock, Config.instanceOf, hb]
  exact decide_eq_true h0

end Sys2Proof
end

