-- ==== Sys2Proof/Laws/State.lean ====
section
/-! SUPPORT. For each plain update of the state, one lemma per field: what the update makes of it. -/

namespace Sys2Proof.Machine

variable (s : State)

/-! ### handBack -/

@[simp] theorem handBack_cfg (r : Result) : (s.handBack r).cfg = s.cfg := rfl
@[simp] theorem handBack_cb (r : Result) : (s.handBack r).cb = s.cb := rfl
@[simp] theorem handBack_vcc (r : Result) : (s.handBack r).vcc = s.vcc := rfl
@[simp] theorem handBack_ovr (r : Result) : (s.handBack r).ovr = s.ovr := rfl
@[simp] theorem handBack_w1 (r : Result) : (s.handBack r).w1 = s.w1 := rfl
@[simp] theorem handBack_w0 (r : Result) : (s.handBack r).w0 = s.w0 := rfl
@[simp] theorem handBack_lock (r : Result) : (s.handBack r).lock = s.lock := rfl
@[simp] theorem handBack_initDone (r : Result) : (s.handBack r).initDone = s.initDone := rfl
@[simp] theorem handBack_ph (r : Result) : (s.handBack r).ph = s.ph := rfl
@[simp] theorem handBack_fId (r : Result) : (s.handBack r).fId = s.fId := rfl
@[simp] theorem handBack_fHi (r : Result) : (s.handBack r).fHi = s.fHi := rfl
@[simp] theorem handBack_fLo (r : Result) : (s.handBack r).fLo = s.fLo := rfl
@[simp] theorem handBack_anyByte (r : Result) : (s.handBack r).anyByte = s.anyByte := rfl
@[simp] theorem handBack_snap (r : Result) : (s.handBack r).snap = s.snap := rfl
@[simp] theorem handBack_snapV (r : Result) : (s.handBack r).snapV = s.snapV := rfl
@[simp] theorem handBack_rxq (r : Result) : (s.handBack r).rxq = s.rxq := rfl
@[simp] theorem handBack_held (r : Result) : (s.handBack r).held = s.held := rfl
@[simp] theorem handBack_agenda (r : Result) : (s.handBack r).agenda = s.agenda := rfl
@[simp] theorem handBack_script (r : Result) : (s.handBack r).script = s.script := rfl
@[simp] theorem handBack_ret (r : Result) : (s.handBack r).ret = some r := rfl

/-! ### dropSnap -/

@[simp] theorem dropSnap_cfg : s.dropSnap.cfg = s.cfg := rfl
@[simp] theorem dropSnap_cb : s.dropSnap.cb = s.cb := rfl
@[simp] theorem dropSnap_vcc : s.dropSnap.vcc = s.vcc := rfl
@[simp] theorem dropSnap_ovr : s.dropSnap.ovr = s.ovr := rfl
@[simp] theorem dropSnap_w1 : s.dropSnap.w1 = s.w1 := rfl
@[simp] theorem dropSnap_w0 : s.dropSnap.w0 = s.w0 := rfl
@[simp] theorem dropSnap_lock : s.dropSnap.lock = s.lock := rfl
@[simp] theorem dropSnap_initDone : s.dropSnap.initDone = s.initDone := rfl
@[simp] theorem dropSnap_ph : s.dropSnap.ph = s.ph := rfl
@[simp] theorem dropSnap_fId : s.dropSnap.fId = s.fId := rfl
@[simp] theorem dropSnap_fHi : s.dropSnap.fHi = s.fHi := rfl
@[simp] theorem dropSnap_fLo : s.dropSnap.fLo = s.fLo := rfl
@[simp] theorem dropSnap_anyByte : s.dropSnap.anyByte = s.anyByte := rfl
@[simp] theorem dropSnap_snap : s.dropSnap.snap = [] := rfl
@[simp] theorem dropSnap_snapV : s.dropSnap.snapV = 0 := rfl
@[simp] theorem dropSnap_rxq : s.dropSnap.rxq = s.rxq := rfl
@[simp] theorem dropSnap_held : s.dropSnap.held = s.held := rfl
@[simp] theorem dropSnap_agenda : s.dropSnap.agenda = s.agenda := rfl
@[simp] theorem dropSnap_script : s.dropSnap.script = s.script := rfl
@[simp] theorem dropSnap_ret : s.dropSnap.ret = s.ret := rfl

/-! ### receive -/

@[simp] theorem receive_cfg (bs : List Byte) : (s.receive bs).cfg = s.cfg := rfl
@[simp] theorem receive_cb (bs : List Byte) : (s.receive bs).cb = s.cb := rfl
@[simp] theorem receive_vcc (bs : List Byte) : (s.receive bs).vcc = s.vcc := rfl
@[simp] theorem receive_ovr (bs : List Byte) : (s.receive bs).ovr = s.ovr := rfl
@[simp] theorem receive_w1 (bs : List Byte) : (s.receive bs).w1 = s.w1 := rfl
@[simp] theorem receive_w0 (bs : List Byte) : (s.receive bs).w0 = s.w0 := rfl
@[simp] theorem receive_lock (bs : List Byte) : (s.receive bs).lock = s.lock := rfl
@[simp] theorem receive_initDone (bs : List Byte) : (s.receive bs).initDone = s.initDone := rfl
@[simp] theorem receive_ph (bs : List Byte) : (s.receive bs).ph = s.ph := rfl
@[simp] theorem receive_fId (bs : List Byte) : (s.receive bs).fId = s.fId := rfl
@[simp] theorem receive_fHi (bs : List Byte) : (s.receive bs).fHi = s.fHi := rfl
@[simp] theorem receive_fLo (bs : List Byte) : (s.receive bs).fLo = s.fLo := rfl
@[simp] theorem receive_anyByte (bs : List Byte) : (s.receive bs).anyByte = s.anyByte := rfl
@[simp] theorem receive_snap (bs : List Byte) : (s.receive bs).snap = s.snap := rfl
@[simp] theorem receive_snapV (bs : List Byte) : (s.receive bs).snapV = s.snapV := rfl
@[simp] theorem receive_rxq (bs : List Byte) : (s.receive bs).rxq = s.rxq ++ bs := rfl
@[simp] theorem receive_held (bs : List Byte) : (s.receive bs).held = s.held := rfl
@[simp] theorem receive_agenda (bs : List Byte) : (s.receive bs).agenda = s.agenda := rfl
@[simp] theorem receive_script (bs : List Byte) : (s.receive bs).script = s.script := rfl
@[simp] theorem receive_ret (bs : List Byte) : (s.receive bs).ret = s.ret := rfl

/-! ### enterCs -/

@[simp] theorem enterCs_cfg : s.enterCs.cfg = s.cfg := rfl
@[simp] theorem enterCs_cb : s.enterCs.cb = s.cb := rfl
@[simp] theorem enterCs_vcc : s.enterCs.vcc = s.vcc := rfl
@[simp] theorem enterCs_ovr : s.enterCs.ovr = s.ovr := rfl
@[simp] theorem enterCs_w1 : s.enterCs.w1 = s.w1 := rfl
@[simp] theorem enterCs_w0 : s.enterCs.w0 = s.w0 := rfl
@[simp] theorem enterCs_lock : s.enterCs.lock = true := rfl
@[simp] theorem enterCs_initDone : s.enterCs.initDone = s.initDone := rfl
@[simp] theorem enterCs_ph : s.enterCs.ph = s.ph := rfl
@[simp] theorem enterCs_fId : s.enterCs.fId = s.fId := rfl
@[simp] theorem enterCs_fHi : s.enterCs.fHi = s.fHi := rfl
@[simp] theorem enterCs_fLo : s.enterCs.fLo = s.fLo := rfl
@[simp] theorem enterCs_anyByte : s.enterCs.anyByte = s.anyByte := rfl
@[simp] theorem enterCs_snap : s.enterCs.snap = s.snap := rfl
@[simp] theorem enterCs_snapV : s.enterCs.snapV = s.snapV := rfl
@[simp] theorem enterCs_rxq : s.enterCs.rxq = s.rxq := rfl
@[simp] theorem enterCs_held : s.enterCs.held = s.held := rfl
@[simp] theorem enterCs_agenda : s.enterCs.agenda = s.agenda := rfl
@[simp] theorem enterCs_script : s.enterCs.script = s.script := rfl
@[simp] theorem enterCs_ret : s.enterCs.ret = s.ret := rfl

/-! ### exitCs -/

@[simp] theorem exitCs_cfg : s.exitCs.cfg = s.cfg := rfl
@[simp] theorem exitCs_cb : s.exitCs.cb = s.cb := rfl
@[simp] theorem exitCs_vcc : s.exitCs.vcc = s.vcc := rfl
@[simp] theorem exitCs_ovr : s.exitCs.ovr = s.ovr := rfl
@[simp] theorem exitCs_w1 : s.exitCs.w1 = s.w1 := rfl
@[simp] theorem exitCs_w0 : s.exitCs.w0 = s.w0 := rfl
@[simp] theorem exitCs_lock : s.exitCs.lock = false := rfl
@[simp] theorem exitCs_initDone : s.exitCs.initDone = s.initDone := rfl
@[simp] theorem exitCs_ph : s.exitCs.ph = s.ph := rfl
@[simp] theorem exitCs_fId : s.exitCs.fId = s.fId := rfl
@[simp] theorem exitCs_fHi : s.exitCs.fHi = s.fHi := rfl
@[simp] theorem exitCs_fLo : s.exitCs.fLo = s.fLo := rfl
@[simp] theorem exitCs_anyByte : s.exitCs.anyByte = s.anyByte := rfl
@[simp] theorem exitCs_snap : s.exitCs.snap = s.snap := rfl
@[simp] theorem exitCs_snapV : s.exitCs.snapV = s.snapV := rfl
@[simp] theorem exitCs_rxq : s.exitCs.rxq = s.rxq := rfl
@[simp] theorem exitCs_held : s.exitCs.held = s.held := rfl
@[simp] theorem exitCs_agenda : s.exitCs.agenda = s.agenda := rfl
@[simp] theorem exitCs_script : s.exitCs.script = s.script := rfl
@[simp] theorem exitCs_ret : s.exitCs.ret = s.ret := rfl

/-! ### loadSnap -/

@[simp] theorem loadSnap_cfg (first count : Nat) : (s.loadSnap first count).cfg = s.cfg := rfl
@[simp] theorem loadSnap_cb (first count : Nat) : (s.loadSnap first count).cb = s.cb := rfl
@[simp] theorem loadSnap_vcc (first count : Nat) : (s.loadSnap first count).vcc = s.vcc := rfl
@[simp] theorem loadSnap_ovr (first count : Nat) : (s.loadSnap first count).ovr = s.ovr := rfl
@[simp] theorem loadSnap_w1 (first count : Nat) : (s.loadSnap first count).w1 = s.w1 := rfl
@[simp] theorem loadSnap_w0 (first count : Nat) : (s.loadSnap first count).w0 = s.w0 := rfl
@[simp] theorem loadSnap_lock (first count : Nat) : (s.loadSnap first count).lock = s.lock := rfl
@[simp] theorem loadSnap_initDone (first count : Nat) : (s.loadSnap first count).initDone = s.initDone := rfl
@[simp] theorem loadSnap_ph (first count : Nat) : (s.loadSnap first count).ph = s.ph := rfl
@[simp] theorem loadSnap_fId (first count : Nat) : (s.loadSnap first count).fId = s.fId := rfl
@[simp] theorem loadSnap_fHi (first count : Nat) : (s.loadSnap first count).fHi = s.fHi := rfl
@[simp] theorem loadSnap_fLo (first count : Nat) : (s.loadSnap first count).fLo = s.fLo := rfl
@[simp] theorem loadSnap_anyByte (first count : Nat) : (s.loadSnap first count).anyByte = s.anyByte := rfl
@[simp] theorem loadSnap_snap (first count : Nat) : (s.loadSnap first count).snap = (List.range count).map (fun i => s.readCb (first + i)) := rfl
@[simp] theorem loadSnap_snapV (first count : Nat) : (s.loadSnap first count).snapV = s.snapV := rfl
@[simp] theorem loadSnap_rxq (first count : Nat) : (s.loadSnap first count).rxq = s.rxq := rfl
@[simp] theorem loadSnap_held (first count : Nat) : (s.loadSnap first count).held = s.held := rfl
@[simp] theorem loadSnap_agenda (first count : Nat) : (s.loadSnap first count).agenda = s.agenda := rfl
@[simp] theorem loadSnap_script (first count : Nat) : (s.loadSnap first count).script = s.script := rfl
@[simp] theorem loadSnap_ret (first count : Nat) : (s.loadSnap first count).ret = s.ret := rfl

/-! ### loadSnapV -/

@[simp] theorem loadSnapV_cfg : s.loadSnapV.cfg = s.cfg := rfl
@[simp] theorem loadSnapV_cb : s.loadSnapV.cb = s.cb := rfl
@[simp] theorem loadSnapV_vcc : s.loadSnapV.vcc = s.vcc := rfl
@[simp] theorem loadSnapV_ovr : s.loadSnapV.ovr = s.ovr := rfl
@[simp] theorem loadSnapV_w1 : s.loadSnapV.w1 = s.w1 := rfl
@[simp] theorem loadSnapV_w0 : s.loadSnapV.w0 = s.w0 := rfl
@[simp] theorem loadSnapV_lock : s.loadSnapV.lock = s.lock := rfl
@[simp] theorem loadSnapV_initDone : s.loadSnapV.initDone = s.initDone := rfl
@[simp] theorem loadSnapV_ph : s.loadSnapV.ph = s.ph := rfl
@[simp] theorem loadSnapV_fId : s.loadSnapV.fId = s.fId := rfl
@[simp] theorem loadSnapV_fHi : s.loadSnapV.fHi = s.fHi := rfl
@[simp] theorem loadSnapV_fLo : s.loadSnapV.fLo = s.fLo := rfl
@[simp] theorem loadSnapV_anyByte : s.loadSnapV.anyByte = s.anyByte := rfl
@[simp] theorem loadSnapV_snap : s.loadSnapV.snap = s.snap := rfl
@[simp] theorem loadSnapV_snapV : s.loadSnapV.snapV = s.vcc := rfl
@[simp] theorem loadSnapV_rxq : s.loadSnapV.rxq = s.rxq := rfl
@[simp] theorem loadSnapV_held : s.loadSnapV.held = s.held := rfl
@[simp] theorem loadSnapV_agenda : s.loadSnapV.agenda = s.agenda := rfl
@[simp] theorem loadSnapV_script : s.loadSnapV.script = s.script := rfl
@[simp] theorem loadSnapV_ret : s.loadSnapV.ret = s.ret := rfl

/-! ### writeOvr -/

@[simp] theorem writeOvr_cfg (i : Nat) (v : S16) : (s.writeOvr i v).cfg = s.cfg := rfl
@[simp] theorem writeOvr_cb (i : Nat) (v : S16) : (s.writeOvr i v).cb = s.cb := rfl
@[simp] theorem writeOvr_vcc (i : Nat) (v : S16) : (s.writeOvr i v).vcc = s.vcc := rfl
@[simp] theorem writeOvr_ovr (i : Nat) (v : S16) : (s.writeOvr i v).ovr = s.ovr.set i v := rfl
@[simp] theorem writeOvr_w1 (i : Nat) (v : S16) : (s.writeOvr i v).w1 = s.w1 := rfl
@[simp] theorem writeOvr_w0 (i : Nat) (v : S16) : (s.writeOvr i v).w0 = s.w0 := rfl
@[simp] theorem writeOvr_lock (i : Nat) (v : S16) : (s.writeOvr i v).lock = s.lock := rfl
@[simp] theorem writeOvr_initDone (i : Nat) (v : S16) : (s.writeOvr i v).initDone = s.initDone := rfl
@[simp] theorem writeOvr_ph (i : Nat) (v : S16) : (s.writeOvr i v).ph = s.ph := rfl
@[simp] theorem writeOvr_fId (i : Nat) (v : S16) : (s.writeOvr i v).fId = s.fId := rfl
@[simp] theorem writeOvr_fHi (i : Nat) (v : S16) : (s.writeOvr i v).fHi = s.fHi := rfl
@[simp] theorem writeOvr_fLo (i : Nat) (v : S16) : (s.writeOvr i v).fLo = s.fLo := rfl
@[simp] theorem writeOvr_anyByte (i : Nat) (v : S16) : (s.writeOvr i v).anyByte = s.anyByte := rfl
@[simp] theorem writeOvr_snap (i : Nat) (v : S16) : (s.writeOvr i v).snap = s.snap := rfl
@[simp] theorem writeOvr_snapV (i : Nat) (v : S16) : (s.writeOvr i v).snapV = s.snapV := rfl
@[simp] theorem writeOvr_rxq (i : Nat) (v : S16) : (s.writeOvr i v).rxq = s.rxq := rfl
@[simp] theorem writeOvr_held (i : Nat) (v : S16) : (s.writeOvr i v).held = s.held := rfl
@[simp] theorem writeOvr_agenda (i : Nat) (v : S16) : (s.writeOvr i v).agenda = s.agenda := rfl
@[simp] theorem writeOvr_script (i : Nat) (v : S16) : (s.writeOvr i v).script = s.script := rfl
@[simp] theorem writeOvr_ret (i : Nat) (v : S16) : (s.writeOvr i v).ret = s.ret := rfl

/-! ### clearOvr -/

@[simp] theorem clearOvr_cfg : s.clearOvr.cfg = s.cfg := rfl
@[simp] theorem clearOvr_cb : s.clearOvr.cb = s.cb := rfl
@[simp] theorem clearOvr_vcc : s.clearOvr.vcc = s.vcc := rfl
@[simp] theorem clearOvr_ovr : s.clearOvr.ovr = List.replicate s.cfg.n 0 := rfl
@[simp] theorem clearOvr_w1 : s.clearOvr.w1 = s.w1 := rfl
@[simp] theorem clearOvr_w0 : s.clearOvr.w0 = s.w0 := rfl
@[simp] theorem clearOvr_lock : s.clearOvr.lock = s.lock := rfl
@[simp] theorem clearOvr_initDone : s.clearOvr.initDone = s.initDone := rfl
@[simp] theorem clearOvr_ph : s.clearOvr.ph = s.ph := rfl
@[simp] theorem clearOvr_fId : s.clearOvr.fId = s.fId := rfl
@[simp] theorem clearOvr_fHi : s.clearOvr.fHi = s.fHi := rfl
@[simp] theorem clearOvr_fLo : s.clearOvr.fLo = s.fLo := rfl
@[simp] theorem clearOvr_anyByte : s.clearOvr.anyByte = s.anyByte := rfl
@[simp] theorem clearOvr_snap : s.clearOvr.snap = s.snap := rfl
@[simp] theorem clearOvr_snapV : s.clearOvr.snapV = s.snapV := rfl
@[simp] theorem clearOvr_rxq : s.clearOvr.rxq = s.rxq := rfl
@[simp] theorem clearOvr_held : s.clearOvr.held = s.held := rfl
@[simp] theorem clearOvr_agenda : s.clearOvr.agenda = s.agenda := rfl
@[simp] theorem clearOvr_script : s.clearOvr.script = s.script := rfl
@[simp] theorem clearOvr_ret : s.clearOvr.ret = s.ret := rfl

/-! ### takeId -/

@[simp] theorem takeId_cfg (b : Byte) : (s.takeId b).cfg = s.cfg := rfl
@[simp] theorem takeId_cb (b : Byte) : (s.takeId b).cb = s.cb := rfl
@[simp] theorem takeId_vcc (b : Byte) : (s.takeId b).vcc = s.vcc := rfl
@[simp] theorem takeId_ovr (b : Byte) : (s.takeId b).ovr = s.ovr := rfl
@[simp] theorem takeId_w1 (b : Byte) : (s.takeId b).w1 = s.w1 := rfl
@[simp] theorem takeId_w0 (b : Byte) : (s.takeId b).w0 = s.w0 := rfl
@[simp] theorem takeId_lock (b : Byte) : (s.takeId b).lock = s.lock := rfl
@[simp] theorem takeId_initDone (b : Byte) : (s.takeId b).initDone = s.initDone := rfl
@[simp] theorem takeId_ph (b : Byte) : (s.takeId b).ph = .hi := rfl
@[simp] theorem takeId_fId (b : Byte) : (s.takeId b).fId = b := rfl
@[simp] theorem takeId_fHi (b : Byte) : (s.takeId b).fHi = s.fHi := rfl
@[simp] theorem takeId_fLo (b : Byte) : (s.takeId b).fLo = s.fLo := rfl
@[simp] theorem takeId_anyByte (b : Byte) : (s.takeId b).anyByte = s.anyByte := rfl
@[simp] theorem takeId_snap (b : Byte) : (s.takeId b).snap = s.snap := rfl
@[simp] theorem takeId_snapV (b : Byte) : (s.takeId b).snapV = s.snapV := rfl
@[simp] theorem takeId_rxq (b : Byte) : (s.takeId b).rxq = s.rxq := rfl
@[simp] theorem takeId_held (b : Byte) : (s.takeId b).held = s.held := rfl
@[simp] theorem takeId_agenda (b : Byte) : (s.takeId b).agenda = s.agenda := rfl
@[simp] theorem takeId_script (b : Byte) : (s.takeId b).script = s.script := rfl
@[simp] theorem takeId_ret (b : Byte) : (s.takeId b).ret = s.ret := rfl

/-! ### takeHigh -/

@[simp] theorem takeHigh_cfg (b : Byte) : (s.takeHigh b).cfg = s.cfg := rfl
@[simp] theorem takeHigh_cb (b : Byte) : (s.takeHigh b).cb = s.cb := rfl
@[simp] theorem takeHigh_vcc (b : Byte) : (s.takeHigh b).vcc = s.vcc := rfl
@[simp] theorem takeHigh_ovr (b : Byte) : (s.takeHigh b).ovr = s.ovr := rfl
@[simp] theorem takeHigh_w1 (b : Byte) : (s.takeHigh b).w1 = s.w1 := rfl
@[simp] theorem takeHigh_w0 (b : Byte) : (s.takeHigh b).w0 = s.w0 := rfl
@[simp] theorem takeHigh_lock (b : Byte) : (s.takeHigh b).lock = s.lock := rfl
@[simp] theorem takeHigh_initDone (b : Byte) : (s.takeHigh b).initDone = s.initDone := rfl
@[simp] theorem takeHigh_ph (b : Byte) : (s.takeHigh b).ph = .lo := rfl
@[simp] theorem takeHigh_fId (b : Byte) : (s.takeHigh b).fId = s.fId := rfl
@[simp] theorem takeHigh_fHi (b : Byte) : (s.takeHigh b).fHi = b := rfl
@[simp] theorem takeHigh_fLo (b : Byte) : (s.takeHigh b).fLo = s.fLo := rfl
@[simp] theorem takeHigh_anyByte (b : Byte) : (s.takeHigh b).anyByte = s.anyByte := rfl
@[simp] theorem takeHigh_snap (b : Byte) : (s.takeHigh b).snap = s.snap := rfl
@[simp] theorem takeHigh_snapV (b : Byte) : (s.takeHigh b).snapV = s.snapV := rfl
@[simp] theorem takeHigh_rxq (b : Byte) : (s.takeHigh b).rxq = s.rxq := rfl
@[simp] theorem takeHigh_held (b : Byte) : (s.takeHigh b).held = s.held := rfl
@[simp] theorem takeHigh_agenda (b : Byte) : (s.takeHigh b).agenda = s.agenda := rfl
@[simp] theorem takeHigh_script (b : Byte) : (s.takeHigh b).script = s.script := rfl
@[simp] theorem takeHigh_ret (b : Byte) : (s.takeHigh b).ret = s.ret := rfl

/-! ### takeLow -/

@[simp] theorem takeLow_cfg (b : Byte) : (s.takeLow b).cfg = s.cfg := rfl
@[simp] theorem takeLow_cb (b : Byte) : (s.takeLow b).cb = committed s.cfg.n s.cb s.fId s.fHi b := rfl
@[simp] theorem takeLow_vcc (b : Byte) : (s.takeLow b).vcc = s.vcc := rfl
@[simp] theorem takeLow_ovr (b : Byte) : (s.takeLow b).ovr = s.ovr := rfl
@[simp] theorem takeLow_w1 (b : Byte) : (s.takeLow b).w1 = s.w1 := rfl
@[simp] theorem takeLow_w0 (b : Byte) : (s.takeLow b).w0 = s.w0 := rfl
@[simp] theorem takeLow_lock (b : Byte) : (s.takeLow b).lock = s.lock := rfl
@[simp] theorem takeLow_initDone (b : Byte) : (s.takeLow b).initDone = s.initDone := rfl
@[simp] theorem takeLow_ph (b : Byte) : (s.takeLow b).ph = .scan := rfl
@[simp] theorem takeLow_fId (b : Byte) : (s.takeLow b).fId = s.fId := rfl
@[simp] theorem takeLow_fHi (b : Byte) : (s.takeLow b).fHi = s.fHi := rfl
@[simp] theorem takeLow_fLo (b : Byte) : (s.takeLow b).fLo = b := rfl
@[simp] theorem takeLow_anyByte (b : Byte) : (s.takeLow b).anyByte = s.anyByte := rfl
@[simp] theorem takeLow_snap (b : Byte) : (s.takeLow b).snap = s.snap := rfl
@[simp] theorem takeLow_snapV (b : Byte) : (s.takeLow b).snapV = s.snapV := rfl
@[simp] theorem takeLow_rxq (b : Byte) : (s.takeLow b).rxq = s.rxq := rfl
@[simp] theorem takeLow_held (b : Byte) : (s.takeLow b).held = s.held := rfl
@[simp] theorem takeLow_agenda (b : Byte) : (s.takeLow b).agenda = s.agenda := rfl
@[simp] theorem takeLow_script (b : Byte) : (s.takeLow b).script = s.script := rfl
@[simp] theorem takeLow_ret (b : Byte) : (s.takeLow b).ret = s.ret := rfl

/-! ### commit -/

@[simp] theorem commit_cfg : s.commit.cfg = s.cfg := rfl
@[simp] theorem commit_cb : s.commit.cb = committed s.cfg.n s.cb s.fId s.fHi s.fLo := rfl
@[simp] theorem commit_vcc : s.commit.vcc = s.vcc := rfl
@[simp] theorem commit_ovr : s.commit.ovr = s.ovr := rfl
@[simp] theorem commit_w1 : s.commit.w1 = s.w1 := rfl
@[simp] theorem commit_w0 : s.commit.w0 = s.w0 := rfl
@[simp] theorem commit_lock : s.commit.lock = s.lock := rfl
@[simp] theorem commit_initDone : s.commit.initDone = s.initDone := rfl
@[simp] theorem commit_ph : s.commit.ph = .scan := rfl
@[simp] theorem commit_fId : s.commit.fId = s.fId := rfl
@[simp] theorem commit_fHi : s.commit.fHi = s.fHi := rfl
@[simp] theorem commit_fLo : s.commit.fLo = s.fLo := rfl
@[simp] theorem commit_anyByte : s.commit.anyByte = s.anyByte := rfl
@[simp] theorem commit_snap : s.commit.snap = s.snap := rfl
@[simp] theorem commit_snapV : s.commit.snapV = s.snapV := rfl
@[simp] theorem commit_rxq : s.commit.rxq = s.rxq := rfl
@[simp] theorem commit_held : s.commit.held = s.held := rfl
@[simp] theorem commit_agenda : s.commit.agenda = s.agenda := rfl
@[simp] theorem commit_script : s.commit.script = s.script := rfl
@[simp] theorem commit_ret : s.commit.ret = s.ret := rfl

/-! ### pollStart -/

@[simp] theorem pollStart_cfg : s.pollStart.cfg = s.cfg := rfl
@[simp] theorem pollStart_cb : s.pollStart.cb = s.cb := rfl
@[simp] theorem pollStart_vcc : s.pollStart.vcc = s.vcc := rfl
@[simp] theorem pollStart_ovr : s.pollStart.ovr = s.ovr := rfl
@[simp] theorem pollStart_w1 : s.pollStart.w1 = s.w1 := rfl
@[simp] theorem pollStart_w0 : s.pollStart.w0 = s.w0 := rfl
@[simp] theorem pollStart_lock : s.pollStart.lock = s.lock := rfl
@[simp] theorem pollStart_initDone : s.pollStart.initDone = s.initDone := rfl
@[simp] theorem pollStart_ph : s.pollStart.ph = .scan := rfl
@[simp] theorem pollStart_fId : s.pollStart.fId = s.fId := rfl
@[simp] theorem pollStart_fHi : s.pollStart.fHi = s.fHi := rfl
@[simp] theorem pollStart_fLo : s.pollStart.fLo = s.fLo := rfl
@[simp] theorem pollStart_anyByte : s.pollStart.anyByte = false := rfl
@[simp] theorem pollStart_snap : s.pollStart.snap = s.snap := rfl
@[simp] theorem pollStart_snapV : s.pollStart.snapV = s.snapV := rfl
@[simp] theorem pollStart_rxq : s.pollStart.rxq = s.rxq := rfl
@[simp] theorem pollStart_held : s.pollStart.held = s.held := rfl
@[simp] theorem pollStart_agenda : s.pollStart.agenda = s.agenda := rfl
@[simp] theorem pollStart_script : s.pollStart.script = s.script := rfl
@[simp] theorem pollStart_ret : s.pollStart.ret = s.ret := rfl

/-! ### byteRead -/

@[simp] theorem byteRead_cfg (rest : List Byte) : (s.byteRead rest).cfg = s.cfg := rfl
@[simp] theorem byteRead_cb (rest : List Byte) : (s.byteRead rest).cb = s.cb := rfl
@[simp] theorem byteRead_vcc (rest : List Byte) : (s.byteRead rest).vcc = s.vcc := rfl
@[simp] theorem byteRead_ovr (rest : List Byte) : (s.byteRead rest).ovr = s.ovr := rfl
@[simp] theorem byteRead_w1 (rest : List Byte) : (s.byteRead rest).w1 = s.w1 := rfl
@[simp] theorem byteRead_w0 (rest : List Byte) : (s.byteRead rest).w0 = s.w0 := rfl
@[simp] theorem byteRead_lock (rest : List Byte) : (s.byteRead rest).lock = s.lock := rfl
@[simp] theorem byteRead_initDone (rest : List Byte) : (s.byteRead rest).initDone = s.initDone := rfl
@[simp] theorem byteRead_ph (rest : List Byte) : (s.byteRead rest).ph = s.ph := rfl
@[simp] theorem byteRead_fId (rest : List Byte) : (s.byteRead rest).fId = s.fId := rfl
@[simp] theorem byteRead_fHi (rest : List Byte) : (s.byteRead rest).fHi = s.fHi := rfl
@[simp] theorem byteRead_fLo (rest : List Byte) : (s.byteRead rest).fLo = s.fLo := rfl
@[simp] theorem byteRead_anyByte (rest : List Byte) : (s.byteRead rest).anyByte = true := rfl
@[simp] theorem byteRead_snap (rest : List Byte) : (s.byteRead rest).snap = s.snap := rfl
@[simp] theorem byteRead_snapV (rest : List Byte) : (s.byteRead rest).snapV = s.snapV := rfl
@[simp] theorem byteRead_rxq (rest : List Byte) : (s.byteRead rest).rxq = rest := rfl
@[simp] theorem byteRead_held (rest : List Byte) : (s.byteRead rest).held = s.held := rfl
@[simp] theorem byteRead_agenda (rest : List Byte) : (s.byteRead rest).agenda = s.agenda := rfl
@[simp] theorem byteRead_script (rest : List Byte) : (s.byteRead rest).script = s.script := rfl
@[simp] theorem byteRead_ret (rest : List Byte) : (s.byteRead rest).ret = s.ret := rfl

/-! ### pollFinish -/

@[simp] theorem pollFinish_cfg : s.pollFinish.cfg = s.cfg := rfl
@[simp] theorem pollFinish_cb : s.pollFinish.cb = s.cb := rfl
@[simp] theorem pollFinish_vcc : s.pollFinish.vcc = countAfterPoll s.cfg s.anyByte := rfl
@[simp] theorem pollFinish_ovr : s.pollFinish.ovr = s.ovr := rfl
@[simp] theorem pollFinish_w1 : s.pollFinish.w1 = s.w1 := rfl
@[simp] theorem pollFinish_w0 : s.pollFinish.w0 = s.w0 := rfl
@[simp] theorem pollFinish_lock : s.pollFinish.lock = s.lock := rfl
@[simp] theorem pollFinish_initDone : s.pollFinish.initDone = s.initDone := rfl
@[simp] theorem pollFinish_ph : s.pollFinish.ph = .scan := rfl
@[simp] theorem pollFinish_fId : s.pollFinish.fId = 0 := rfl
@[simp] theorem pollFinish_fHi : s.pollFinish.fHi = 0 := rfl
@[simp] theorem pollFinish_fLo : s.pollFinish.fLo = 0 := rfl
@[simp] theorem pollFinish_anyByte : s.pollFinish.anyByte = false := rfl
@[simp] theorem pollFinish_snap : s.pollFinish.snap = s.snap := rfl
@[simp] theorem pollFinish_snapV : s.pollFinish.snapV = s.snapV := rfl
@[simp] theorem pollFinish_rxq : s.pollFinish.rxq = s.rxq := rfl
@[simp] theorem pollFinish_held : s.pollFinish.held = s.held := rfl
@[simp] theorem pollFinish_agenda : s.pollFinish.agenda = s.agenda := rfl
@[simp] theorem pollFinish_script : s.pollFinish.script = s.script := rfl
@[simp] theorem pollFinish_ret : s.pollFinish.ret = s.ret := rfl

/-! ### systemStart -/

@[simp] theorem systemStart_cfg : s.systemStart.cfg = s.cfg := rfl
@[simp] theorem systemStart_cb : s.systemStart.cb = List.replicate s.cfg.n 0 := rfl
@[simp] theorem systemStart_vcc : s.systemStart.vcc = 0 := rfl
@[simp] theorem systemStart_ovr : s.systemStart.ovr = List.replicate s.cfg.n 0 := rfl
@[simp] theorem systemStart_w1 : s.systemStart.w1 = 0 := rfl
@[simp] theorem systemStart_w0 : s.systemStart.w0 = 0 := rfl
@[simp] theorem systemStart_lock : s.systemStart.lock = false := rfl
@[simp] theorem systemStart_initDone : s.systemStart.initDone = false := rfl
@[simp] theorem systemStart_ph : s.systemStart.ph = .scan := rfl
@[simp] theorem systemStart_fId : s.systemStart.fId = 0 := rfl
@[simp] theorem systemStart_fHi : s.systemStart.fHi = 0 := rfl
@[simp] theorem systemStart_fLo : s.systemStart.fLo = 0 := rfl
@[simp] theorem systemStart_anyByte : s.systemStart.anyByte = false := rfl
@[simp] theorem systemStart_snap : s.systemStart.snap = [] := rfl
@[simp] theorem systemStart_snapV : s.systemStart.snapV = 0 := rfl
@[simp] theorem systemStart_rxq : s.systemStart.rxq = s.rxq := rfl
@[simp] theorem systemStart_held : s.systemStart.held = s.held := rfl
@[simp] theorem systemStart_agenda : s.systemStart.agenda = s.agenda := rfl
@[simp] theorem systemStart_script : s.systemStart.script = s.script := rfl
@[simp] theorem systemStart_ret : s.systemStart.ret = none := rfl

end Sys2Proof.Machine
end

