-- ==== Sys2Proof/Laws/Ops.lean ====
section
/-! SUPPORT. For each shared operation, what it can do, said once. -/

namespace Sys2Proof.Machine

/-! ### The decoder, one byte at a time -/

theorem scanByte_match {s : State} {b : Byte} (h : markerAt s.w0 b = true) :
    s.scanByte b = { s with w1 := s.w0, w0 := b, fId := 0, fHi := 0, fLo := 0, ph := .id } := by
  simp [State.scanByte, h]

theorem scanByte_noMatch {s : State} {b : Byte} (h : markerAt s.w0 b = false) :
    s.scanByte b = { s with w1 := s.w0, w0 := b, ph := .scan } := by
  simp [State.scanByte, h]

/-- What the producer can never change: the parameters, the overrides, LOCK, INIT's completion, a snapshot in
progress, the script and the consumer's result (R129). -/
structure ProducerFrame (s t : State) : Prop where
  cfg : t.cfg = s.cfg
  ovr : t.ovr = s.ovr
  lock : t.lock = s.lock
  initDone : t.initDone = s.initDone
  snap : t.snap = s.snap
  snapV : t.snapV = s.snapV
  script : t.script = s.script
  ret : t.ret = s.ret

theorem ProducerFrame.refl (s : State) : ProducerFrame s s := ⟨rfl, rfl, rfl, rfl, rfl, rfl, rfl, rfl⟩

theorem ProducerFrame.trans {s t u : State} (h : ProducerFrame s t) (k : ProducerFrame t u) : ProducerFrame s u :=
  ⟨k.cfg.trans h.cfg, k.ovr.trans h.ovr, k.lock.trans h.lock, k.initDone.trans h.initDone, k.snap.trans h.snap,
    k.snapV.trans h.snapV, k.script.trans h.script, k.ret.trans h.ret⟩

theorem scanByte_frame (s : State) (b : Byte) : ProducerFrame s (s.scanByte b) := by
  unfold State.scanByte
  split <;> exact ⟨rfl, rfl, rfl, rfl, rfl, rfl, rfl, rfl⟩

theorem pollByte_frame (s : State) (b : Byte) : ProducerFrame s (s.pollByte b) := by
  unfold State.pollByte
  split
  · exact scanByte_frame s b
  all_goals exact ⟨rfl, rfl, rfl, rfl, rfl, rfl, rfl, rfl⟩

theorem closeFrame_frame (s : State) : ProducerFrame s s.closeFrame := by
  unfold State.closeFrame
  split <;> exact ⟨rfl, rfl, rfl, rfl, rfl, rfl, rfl, rfl⟩

theorem pollLoop_frame (bs : List Byte) (s : State) : ProducerFrame s (s.pollLoop bs) := by
  induction bs generalizing s with
  | nil => exact .refl s
  | cons b rest ih =>
    have read : ProducerFrame s (s.byteRead rest) := ⟨rfl, rfl, rfl, rfl, rfl, rfl, rfl, rfl⟩
    exact (read.trans (pollByte_frame _ b)).trans (ih _)

theorem runPoll_frame (s : State) : ProducerFrame s s.runPoll := by
  have start : ProducerFrame s s.pollStart := ⟨rfl, rfl, rfl, rfl, rfl, rfl, rfl, rfl⟩
  exact ((start.trans (pollLoop_frame _ _)).trans (closeFrame_frame _)).trans ⟨rfl, rfl, rfl, rfl, rfl, rfl, rfl, rfl⟩

theorem raisePoll_locked {s : State} (h : s.lock = true) : s.raisePoll = { s with held := true } := by
  simp [State.raisePoll, h]

theorem raisePoll_unlocked {s : State} (h : s.lock = false) :
    s.raisePoll = State.runPoll { s with held := false } := by
  simp [State.raisePoll, h]

theorem raisePoll_frame (s : State) : ProducerFrame s s.raisePoll := by
  unfold State.raisePoll
  split
  · exact ⟨rfl, rfl, rfl, rfl, rfl, rfl, rfl, rfl⟩
  · have clear : ProducerFrame s { s with held := false } := ⟨rfl, rfl, rfl, rfl, rfl, rfl, rfl, rfl⟩
    exact clear.trans (runPoll_frame _)

theorem envEvent_frame (s : State) (e : EnvEvent) : ProducerFrame s (s.envEvent e) := by
  cases e with
  | rx bs => exact ⟨rfl, rfl, rfl, rfl, rfl, rfl, rfl, rfl⟩
  | pollReq => exact raisePoll_frame s

theorem envEvents_frame (es : List EnvEvent) (s : State) : ProducerFrame s (s.envEvents es) := by
  induction es generalizing s with
  | nil => exact .refl s
  | cons e es ih => exact (envEvent_frame s e).trans (ih _)

theorem preempt_frame (s : State) : ProducerFrame s s.preempt := by
  unfold State.preempt
  split
  · exact .refl s
  · rename_i es rest _
    have turn : ProducerFrame s { s with agenda := rest } := ⟨rfl, rfl, rfl, rfl, rfl, rfl, rfl, rfl⟩
    exact turn.trans (envEvents_frame es _)

/-- With an empty agenda nothing happens at a preemption point. -/
theorem preempt_quiet {s : State} (h : s.agenda = []) : s.preempt = s := by
  simp [State.preempt, h]

@[simp] theorem preempt_cfg (s : State) : s.preempt.cfg = s.cfg := (preempt_frame s).cfg
@[simp] theorem preempt_ovr (s : State) : s.preempt.ovr = s.ovr := (preempt_frame s).ovr
@[simp] theorem preempt_lock (s : State) : s.preempt.lock = s.lock := (preempt_frame s).lock
@[simp] theorem preempt_initDone (s : State) : s.preempt.initDone = s.initDone := (preempt_frame s).initDone
@[simp] theorem preempt_snap (s : State) : s.preempt.snap = s.snap := (preempt_frame s).snap
@[simp] theorem preempt_snapV (s : State) : s.preempt.snapV = s.snapV := (preempt_frame s).snapV
@[simp] theorem preempt_script (s : State) : s.preempt.script = s.script := (preempt_frame s).script
@[simp] theorem preempt_ret (s : State) : s.preempt.ret = s.ret := (preempt_frame s).ret

/-! ### Tables keep their length -/

@[simp] theorem committed_length (n : Nat) (cb : List U16) (id high low : Byte) :
    (committed n cb id high low).length = cb.length := by
  unfold committed
  split <;> simp

theorem committed_of_commits {n : Nat} {cb : List U16} {id high low : Byte} (h : commits n id high low = true) :
    committed n cb id high low = cb.set (id.toNat - 1) (joinBytes high low) := by
  simp [committed, h]

theorem committed_of_discards {n : Nat} {cb : List U16} {id high low : Byte} (h : commits n id high low = false) :
    committed n cb id high low = cb := by
  simp [committed, h]

@[simp] theorem scanByte_cb (s : State) (b : Byte) : (s.scanByte b).cb = s.cb := by
  unfold State.scanByte
  split <;> rfl

theorem pollByte_cbLength (s : State) (b : Byte) : (s.pollByte b).cb.length = s.cb.length := by
  unfold State.pollByte
  split <;> simp

theorem closeFrame_cbLength (s : State) : s.closeFrame.cb.length = s.cb.length := by
  unfold State.closeFrame
  split <;> simp

theorem pollLoop_cbLength (bs : List Byte) (s : State) : (s.pollLoop bs).cb.length = s.cb.length := by
  induction bs generalizing s with
  | nil => rfl
  | cons b rest ih => simp [State.pollLoop, ih, pollByte_cbLength]

theorem runPoll_cbLength (s : State) : s.runPoll.cb.length = s.cb.length := by
  simp [State.runPoll, closeFrame_cbLength, pollLoop_cbLength]

/-! ### Captured frames -/

/-- R74's two conditions, as propositions. -/
theorem commits_iff {n : Nat} {id high low : Byte} :
    commits n id high low = true ↔ (high ≠ 0 ∨ low ≠ 0) ∧ 1 ≤ id.toNat ∧ id.toNat ≤ n := by
  simp [commits, and_assoc]

theorem closeFrame_scan {s : State} (h : s.ph = .scan) : s.closeFrame = s := by
  simp [State.closeFrame, h]

theorem closeFrame_open {s : State} (h : s.ph ≠ .scan) : s.closeFrame = s.commit := by
  unfold State.closeFrame
  split
  · contradiction
  all_goals rfl

/-! ### What the bytes of a poll do outside the decoder's registers -/

@[simp] theorem pollByte_rxq (s : State) (b : Byte) : (s.pollByte b).rxq = s.rxq := by
  unfold State.pollByte State.scanByte
  split
  · split <;> rfl
  all_goals rfl

@[simp] theorem pollByte_anyByte (s : State) (b : Byte) : (s.pollByte b).anyByte = s.anyByte := by
  unfold State.pollByte State.scanByte
  split
  · split <;> rfl
  all_goals rfl

@[simp] theorem pollByte_vcc (s : State) (b : Byte) : (s.pollByte b).vcc = s.vcc := by
  unfold State.pollByte State.scanByte
  split
  · split <;> rfl
  all_goals rfl

@[simp] theorem pollByte_held (s : State) (b : Byte) : (s.pollByte b).held = s.held := by
  unfold State.pollByte State.scanByte
  split
  · split <;> rfl
  all_goals rfl

@[simp] theorem pollByte_agenda (s : State) (b : Byte) : (s.pollByte b).agenda = s.agenda := by
  unfold State.pollByte State.scanByte
  split
  · split <;> rfl
  all_goals rfl

@[simp] theorem closeFrame_rxq (s : State) : s.closeFrame.rxq = s.rxq := by
  unfold State.closeFrame
  split <;> rfl

@[simp] theorem closeFrame_anyByte (s : State) : s.closeFrame.anyByte = s.anyByte := by
  unfold State.closeFrame
  split <;> rfl

/-! ### The critical section -/

/-- A critical section around loads that keep to the snapshot registers changes nothing of the consumer's. -/
theorem inCriticalSection_frame {s : State} {loads : State → State}
    (h : ∀ t, (loads t).cfg = t.cfg ∧ (loads t).ovr = t.ovr ∧ (loads t).initDone = t.initDone ∧
      (loads t).script = t.script ∧ (loads t).ret = t.ret) :
    (s.inCriticalSection loads).cfg = s.cfg ∧ (s.inCriticalSection loads).ovr = s.ovr ∧
      (s.inCriticalSection loads).lock = false ∧ (s.inCriticalSection loads).initDone = s.initDone ∧
      (s.inCriticalSection loads).script = s.script ∧ (s.inCriticalSection loads).ret = s.ret := by
  have k := h s.enterCs.preempt
  simp [State.inCriticalSection, k]

/-! ### Overrides -/

theorem ne_zero_of_positive {v : S16} (hv : 0 < v.toInt) : v ≠ 0 := by
  rintro rfl
  simp at hv

theorem readOverrideValue_apply {v : S16} (hv : 0 < v.toInt) : readOverrideValue v = .apply := by
  rw [readOverrideValue, if_neg (by omega), if_neg (ne_zero_of_positive hv)]

theorem override_negative {s : State} {c : Nat} {v : S16} (h : v.toInt < 0) :
    s.override c v = s ∧ s.overrideApplied c v = false := by
  simp [State.override, State.overrideApplied, readOverrideValue, h]

theorem override_outOfRange {s : State} {c : Nat} {v : S16} (h : s.cfg.n ≤ c) :
    s.override c v = s ∧ s.overrideApplied c v = false := by
  unfold State.override State.overrideApplied
  split <;> simp [h]

theorem override_clear {s : State} {c : Nat} (h : c < s.cfg.n) :
    s.override c 0 = s.writeOvr c 0 ∧ s.overrideApplied c 0 = false := by
  simp [State.override, State.overrideApplied, readOverrideValue, h]

theorem override_apply {s : State} {c : Nat} {v : S16} (h : c < s.cfg.n) (hv : 0 < v.toInt) :
    s.override c v = { s.writeOvr c v with vcc := s.cfg.sentinel } ∧ s.overrideApplied c v = true := by
  constructor
  · simp only [State.override, readOverrideValue_apply hv]
    rw [if_neg (by omega), countAfterOverride, if_pos (ne_zero_of_positive hv)]
  · simp only [State.overrideApplied, readOverrideValue_apply hv]
    exact decide_eq_true h

/-- SETOVR touches OVR and VCC only (R100). -/
theorem override_frame (s : State) (c : Nat) (v : S16) :
    s.override c v = { s with ovr := (s.override c v).ovr, vcc := (s.override c v).vcc } := by
  unfold State.override
  split
  · rfl
  · split <;> rfl
  · split <;> rfl

theorem override_cfg (s : State) (c : Nat) (v : S16) : (s.override c v).cfg = s.cfg := by
  rw [override_frame]

theorem override_agenda (s : State) (c : Nat) (v : S16) : (s.override c v).agenda = s.agenda := by
  rw [override_frame]

theorem override_cb (s : State) (c : Nat) (v : S16) : (s.override c v).cb = s.cb := by
  rw [override_frame]

theorem override_initDone (s : State) (c : Nat) (v : S16) : (s.override c v).initDone = s.initDone := by
  rw [override_frame]

theorem overrideEach_cons (s : State) (i : Nat) (v v' : S16) (vs : List S16) (r : Bool) :
    s.overrideEach i (v :: v' :: vs) r =
      State.overrideEach (s.override i v).preempt (i + 1) (v' :: vs) (r || s.overrideApplied i v) := rfl

theorem overrideEach_cfg (vs : List S16) (s : State) (i : Nat) (r : Bool) :
    (s.overrideEach i vs r).1.cfg = s.cfg := by
  induction vs generalizing s i r with
  | nil => rfl
  | cons v vs ih =>
    cases vs with
    | nil => exact override_cfg s i v
    | cons v' vs => simp [overrideEach_cons, ih, override_cfg]

/-! ### Launch premises and the script -/

theorem whenReady_next {s t u : State} (h : whenReady s t = .next u) : s.initDone = true ∧ t = u := by
  unfold whenReady at h
  split at h
  · exact ⟨‹_›, by injection h⟩
  · cases h

theorem whenReady_ready {s t : State} (h : s.initDone = true) : whenReady s t = .next t := by
  simp [whenReady, h]

theorem whenReady_early {s t : State} (h : s.initDone = false) : whenReady s t = .refused .beforeInit := by
  simp [whenReady, h]

theorem fetch_idle {s : State} (h : s.script = []) : fetch s = .idle := by
  simp [fetch, h]

theorem fetch_rx {s : State} {bs : List Byte} {rest : List Item} (h : s.script = .rx bs :: rest) :
    fetch s = .arrived { s with script := rest, rxq := s.rxq ++ bs } := by
  simp [fetch, h, State.receive]

theorem fetch_op {s : State} {p : Port} {bs : List Byte} {rest : List Item} {i : Instr}
    (h : s.script = .op p bs :: rest) (hd : decodeWhole p bs = .ok i) :
    fetch s = .run i { s with script := rest } := by
  simp [fetch, h, hd]

theorem fetch_bad {s : State} {p : Port} {bs : List Byte} {rest : List Item} {e : DecodeError}
    (h : s.script = .op p bs :: rest) (hd : decodeWhole p bs = .error e) : fetch s = .bad e := by
  simp [fetch, h, hd]

end Sys2Proof.Machine
end

