-- ==== Sys2Proof/Laws/PerInstr.lean ====
section
/-! SUPPORT. Statements about every instruction as syntax, made per instruction. -/

namespace Sys2Proof.Laws.EncodingLength

/-- The bytes an instruction takes on its port: R50 and R57 for the wire, a selector and the operands of R60 for the
consumer port, one byte for a strobe (log entry 4). -/
def formatBytes : Instr → Nat
  | .frame _ _ _ => 5
  | .frameT2 _ _ => 4
  | .frameT1 _ => 3
  | .frameT0 => 2
  | .skip _ => 1
  | .poll => 1
  | .numch => 1
  | .read _ => 2
  | .readn _ => 2
  | .setovr _ _ => 4
  | .setovrs _ len => 2 + 2 * len.toNat
  | .clrovr => 1
  | .csEnter => 1
  | .csExit => 1
  | .init => 1
  | .reset => 1

/-- A well-formed instruction's encoding has the length of its format. -/
def Statement (i : Instr) : Prop := i.wf = true → (encode i).length = formatBytes i

theorem flatMap_encodeValue_length (vs : List S16) : (vs.flatMap encodeValue).length = 2 * vs.length := by
  induction vs with
  | nil => rfl
  | cons v vs ih => simp [encodeValue, ih]; omega

theorem frame (a b c : Byte) : Statement (.frame a b c) := fun _ => rfl

theorem frameT2 (a b : Byte) : Statement (.frameT2 a b) := fun _ => rfl

theorem frameT1 (a : Byte) : Statement (.frameT1 a) := fun _ => rfl

theorem frameT0 : Statement .frameT0 := fun _ => rfl

theorem skip (b : Byte) : Statement (.skip b) := fun _ => rfl

theorem poll : Statement .poll := fun _ => rfl

theorem numch : Statement .numch := fun _ => rfl

theorem read (c : Byte) : Statement (.read c) := fun _ => rfl

theorem readn (m : Byte) : Statement (.readn m) := fun _ => rfl

theorem setovr (c : Byte) (v : S16) : Statement (.setovr c v) := fun _ => rfl

theorem setovrs (vs : List S16) (len : Byte) : Statement (.setovrs vs len) := by
  intro h
  have hl : vs.length = len.toNat := by simpa [Instr.wf] using h
  simp only [encode, formatBytes, List.length_cons, flatMap_encodeValue_length, hl]
  omega

theorem clrovr : Statement .clrovr := fun _ => rfl

theorem csEnter : Statement .csEnter := fun _ => rfl

theorem csExit : Statement .csExit := fun _ => rfl

theorem init : Statement .init := fun _ => rfl

theorem reset : Statement .reset := fun _ => rfl

end Sys2Proof.Laws.EncodingLength
end

