-- ==== Sys2Proof/Laws/Step.lean ====
section
/-! SUPPORT. What the marker does, and all that a step can do. -/

namespace Sys2Proof.Machine

/-- The two marker bytes, scanned from any state, leave the marker in the window, clear latches and phase ID. -/
theorem scanMarker_eq (s : State) :
    s.scanMarker = { s with w1 := mark0, w0 := mark1, fId := 0, fHi := 0, fLo := 0, ph := .id } := by
  simp [State.scanMarker, State.scanByte, markerAt, mark0, mark1]

/-- Everything a step that answers a next state can have done: waited, taken arriving bytes, or run the instruction
its item decodes to. -/
theorem step_cases {s t : State} (h : step s = .next t) :
    (s.script = [] ∧ t = s.wait) ∨
    (∃ bs rest, s.script = .rx bs :: rest ∧ t = { s with script := rest, rxq := s.rxq ++ bs }) ∨
    ∃ p bs rest i, s.script = .op p bs :: rest ∧ decodeWhole p bs = .ok i ∧ exec i { s with script := rest } = .next t := by
  match hs : s.script with
  | [] =>
    simp only [step, fetch_idle hs] at h
    exact .inl ⟨rfl, by injection h with h; exact h.symm⟩
  | .rx bs :: rest =>
    simp only [step, fetch_rx hs] at h
    exact .inr (.inl ⟨bs, rest, rfl, by injection h with h; exact h.symm⟩)
  | .op p bs :: rest =>
    cases hd : decodeWhole p bs with
    | error e =>
      simp only [step, fetch_bad hs hd] at h
      cases h
    | ok i =>
      simp only [step, fetch_op hs hd] at h
      exact .inr (.inr ⟨p, bs, rest, i, rfl, hd, h⟩)

end Sys2Proof.Machine
end

