-- ==== Sys2Proof/Tests/Slice0.lean ====
section
/-! SUPPORT. The model's own tests. Expected results come from spec/95_test_vectors.md (vector or program named in each
comment) or are written out from 30_encoding.md. The instance is the vectors' example one, N = 8, 900 and 2100; its
sentinel 0x5A is any non-zero value. -/

namespace Sys2Proof.Tests

open Sys2Proof.Machine

/-- The example instance of 95_test_vectors.md. -/
def demoCfg : Config := ⟨8, 900, 2100, 0x5A⟩

/-- The launch state of R141 for the example instance. -/
def demo : State := { State.resetFor demoCfg with initDone := true }

/-- The state of the vectors VR1 to VR14. -/
def readerDemo : State :=
  { demo with
    cb := [0x0BB8, 0x0FA0, 0x0203, 0x8000, 0, 0, 0, 0x0001]
    ovr := [0, 1234, 0, 0, 5, 0, 0, 0]
    vcc := 8 }

/-- The next state, where there is one. -/
def after (o : Host.Outcome State Fault Refusal) : Option State :=
  match o with
  | .next s => some s
  | .fault _ => none
  | .refused _ => none

/-! ### Well-formedness -/

theorem test_wf_setovrs_len_too_long : Instr.wf (.setovrs [5, -1] 3) = false := by decide
theorem test_wf_setovrs_len_too_short : Instr.wf (.setovrs [5, -1, 0] 2) = false := by decide
theorem test_wf_setovrs_good : Instr.wf (.setovrs [5, -1, 0] 3) = true := by decide
theorem test_wf_config_good : demoCfg.wf = true := by decide
theorem test_wf_config_no_channel : Config.wf ⟨0, 900, 2100, 1⟩ = false := by decide
theorem test_wf_config_too_many_channels : Config.wf ⟨256, 900, 2100, 1⟩ = false := by decide
theorem test_wf_config_bounds_crossed : Config.wf ⟨8, 2100, 900, 1⟩ = false := by decide
theorem test_wf_config_zero_sentinel : Config.wf ⟨8, 900, 2100, 0⟩ = false := by decide

/-! ### Decoding: one word per constructor, written out from R50, R57, R59 and 95_test_vectors.md section 7 -/

theorem test_decode_frame : decodeWhole .wire [0x48, 0x43, 0x01, 0x0B, 0xB8] = .ok (.frame 1 0x0B 0xB8) := by decide
theorem test_decode_frameT2 : decodeWhole .wire [0x48, 0x43, 0x03, 0x0B] = .ok (.frameT2 3 0x0B) := by decide
theorem test_decode_frameT1 : decodeWhole .wire [0x48, 0x43, 0x01] = .ok (.frameT1 1) := by decide
theorem test_decode_frameT0 : decodeWhole .wire [0x48, 0x43] = .ok .frameT0 := by decide
theorem test_decode_skip : decodeWhole .wire [0x48] = .ok (.skip 0x48) := by decide
theorem test_decode_poll : decodeWhole .pollReq [0b1] = .ok .poll := by decide
theorem test_decode_numch : decodeWhole .consumer [0b000] = .ok .numch := by decide
theorem test_decode_read : decodeWhole .consumer [0b001, 0x08] = .ok (.read 8) := by decide
theorem test_decode_readn : decodeWhole .consumer [0b010, 0xC8] = .ok (.readn 200) := by decide
theorem test_decode_setovr : decodeWhole .consumer [0b011, 0x03, 0x75, 0x30] = .ok (.setovr 3 30000) := by decide
theorem test_decode_setovrs :
    decodeWhole .consumer [0b100, 0x03, 0x00, 0x05, 0xFF, 0xFF, 0x00, 0x00] = .ok (.setovrs [5, -1, 0] 3) := by decide
theorem test_decode_clrovr : decodeWhole .consumer [0b101] = .ok .clrovr := by decide
theorem test_decode_csEnter : decodeWhole .lock [0b1] = .ok .csEnter := by decide
theorem test_decode_csExit : decodeWhole .lock [0b0] = .ok .csExit := by decide
theorem test_decode_init : decodeWhole .initReq [0b1] = .ok .init := by decide
theorem test_decode_reset : decodeWhole .rst [0b1] = .ok .reset := by decide

/-- Selector 110 (R59). -/
theorem test_decode_unassigned : decodeWhole .consumer [0b110] = .error (.unassignedSelector 6) := by decide
theorem test_decode_missing : decodeWhole .consumer [0b011, 0x03, 0x75] = .error .missingOperand := by decide
theorem test_decode_trailing : decodeWhole .pollReq [1, 1] = .error .trailingBytes := by decide

/-- P2 step 1: `00 48 48 43 02 0F A0 48 43 03 0B` is three skipped bytes' worth of noise, a frame and a cut frame. -/
theorem test_wireUnits :
    wireUnits 0 [0x00, 0x48, 0x48, 0x43, 0x02, 0x0F, 0xA0, 0x48, 0x43, 0x03, 0x0B] =
      [.skip 0x00, .skip 0x48, .frame 0x02 0x0F 0xA0, .frameT2 0x03 0x0B] := by decide

/-- VD24, second poll: the marker's first byte was scanned in the poll before. -/
theorem test_wireUnits_split_marker :
    wireUnits 0x48 [0x43, 0x03, 0x0B, 0xB8] = [.frame 0x03 0x0B 0xB8] := by decide

/-- The opcode table's match words for the wire rows and the consumer port's selectors. -/
theorem test_tableWords :
    decodeTableWord 40 0x4843010BB8 = some (.frame 1 0x0B 0xB8) ∧
    decodeTableWord 32 0x48430000 = some (.frameT2 0 0) ∧
    decodeTableWord 24 0x484300 = some (.frameT1 0) ∧
    decodeTableWord 16 0x4843 = some .frameT0 ∧
    decodeTableWord 8 0xB8 = some (.skip 0xB8) ∧
    decodeTableWord 8 0 = some .numch ∧
    decodeTableWord 8 3 = some (.setovr 0 0) ∧
    decodeTableWord 8 4 = some (.setovrs [] 0) := by decide

/-- From reset, the machine with a table word fetched runs that instruction first. -/
theorem test_fetch_frame :
    step (State.reset.withFetchWord 40 0x4843010BB8) = exec (.frame 1 0x0B 0xB8) State.reset := rfl

/-- As `test_fetch_frame`, for an operation that needs INIT to have completed. -/
theorem test_fetch_setovrs :
    step (State.reset.withFetchWord 8 4) = exec (.setovrs [] 0) { State.reset with initDone := true } := rfl

/-! ### Meanings -/

/-- R72's example: the fields are stored and `CB[7] = 0x1234` (VD6). -/
theorem test_frame_last_channel :
    (after (exec (.frame 0x08 0x12 0x34) demo)).map (fun s => (s.readCb 7, s.fId, s.w1, s.w0)) =
      some (0x1234, 0x08, 0x48, 0x43) := by decide

/-- VD5: id N + 1. -/
theorem test_frame_beyond_n :
    (after (exec (.frame 0x09 0x12 0x34) demo)).map (·.cb) = some demo.cb := by decide

/-- VD19: the low byte is missing. -/
theorem test_frameT2_writes_high : (after (exec (.frameT2 0x01 0x02) demo)).map (·.readCb 0) = some 0x0200 := by decide

/-- VD21: truncated, id 0. -/
theorem test_frameT2_id_zero : (after (exec (.frameT2 0x00 0x05) demo)).map (·.cb) = some demo.cb := by decide

/-- VD18. -/
theorem test_frameT1 :
    (after (exec (.frameT1 0x01) demo)).map (fun s => (s.cb, s.ph)) = some (demo.cb, .scan) := by decide

/-- VD17. -/
theorem test_frameT0 :
    (after (exec .frameT0 demo)).map (fun s => (s.cb, s.w1, s.w0, s.ph)) = some (demo.cb, 0x48, 0x43, .scan) := by decide

/-- VD14: 0x43 as the first byte after reset does not match. -/
theorem test_skip_no_match :
    (after (exec (.skip 0x43) demo)).map (fun s => (s.w1, s.w0, s.ph)) = some (0x00, 0x43, .scan) := by decide

/-- R71: after 0x48, the byte 0x43 completes the marker and the latches are cleared. -/
theorem test_skip_match :
    (after (exec (.skip 0x43) { demo with w0 := 0x48, fHi := 0x77 })).map (fun s => (s.w1, s.w0, s.ph, s.fHi)) =
      some (0x48, 0x43, .id, 0) := by decide

/-- VD29: a low byte 0x48 and the 0x43 after it are no marker. -/
theorem test_poll_marker_not_from_fields :
    (after (exec .poll { demo with rxq := [0x48, 0x43, 0x01, 0x0B, 0x48, 0x43, 0x02, 0x0F, 0xA0] })).map
        (fun s => (s.cb, s.vcc, s.w1, s.w0)) =
      some ([0x0B48, 0, 0, 0, 0, 0, 0, 0], 8, 0x0F, 0xA0) := by decide

/-- P2 step 2: noise, a frame, and a frame cut after its high byte. -/
theorem test_poll_truncated :
    (after (exec .poll { demo with rxq := [0x00, 0x48, 0x48, 0x43, 0x02, 0x0F, 0xA0, 0x48, 0x43, 0x03, 0x0B] })).map
        (fun s => (s.cb, s.vcc, s.w1, s.w0, s.rxq)) =
      some ([0, 0x0FA0, 0x0B00, 0, 0, 0, 0, 0], 8, 0x48, 0x43, []) := by decide

/-- VR14: the sentinel is returned as it is. -/
theorem test_numch_sentinel :
    (after (exec .numch { readerDemo with vcc := 0x5A })).map (·.ret) = some (some (.count 0x5A)) := by decide

/-- VR1, VR2, VR3, VR4, VR5 and VR7. -/
theorem test_read_vectors :
    [0, 1, 2, 3, 4, 8].map (fun c => (after (exec (.read c) readerDemo)).map (·.ret)) =
      [1500, 1234, 900, 2100, 5, 0].map (fun v => some (some (Result.pulse v))) := by decide

/-- VI1, with the poll raised inside the critical section of READ 0: the old value is returned and the poll is held. -/
theorem test_read_holds_poll :
    (after (exec (.read 0)
        { readerDemo with rxq := [0x48, 0x43, 0x01, 0x0F, 0xA0], agenda := [[.pollReq]] })).map
        (fun s => (s.ret, s.held, s.readCb 0, s.lock)) =
      some (some (.pulse 1500), true, 0x0BB8, false) := by decide

/-- VR12: READN 255. -/
theorem test_readn_beyond_n :
    (after (exec (.readn 255) readerDemo)).map (·.ret) =
      some (some (.batch [1500, 1234, 900, 2100, 5, 900, 900, 900] 8)) := by decide

/-- VI1, READN first, the poll right after its critical section: old values with the old count. -/
theorem test_readn_one_instant :
    (after (exec (.readn 2)
        { demo with
          cb := [0x0BB8, 0x0BB8, 0, 0, 0, 0, 0, 0]
          rxq := [0x48, 0x43, 0x01, 0x0F, 0xA0, 0x48, 0x43, 0x02, 0x0F, 0xA0]
          agenda := [[], [.pollReq]] })).map
        (fun s => (s.ret, s.readCb 0, s.readCb 1, s.vcc)) =
      some (some (.batch [1500, 1500] 0), 0x0FA0, 0x0FA0, 8) := by decide

/-- VO8: the last channel and the largest value. -/
theorem test_setovr_applies :
    (after (exec (.setovr 7 32767) demo)).map (fun s => (s.ovr, s.vcc, s.ret)) =
      some ([0, 0, 0, 0, 0, 0, 0, 32767], 0x5A, some (.applied true)) := by decide

/-- VO2, VO3 and VO5: rejections, and a clear that leaves VCC. -/
theorem test_setovr_rejects :
    [Instr.setovr 0 (-32768), .setovr 8 1500, .setovr 0 0].map
        (fun i => (after (exec i readerDemo)).map (fun s => (s.ovr, s.vcc, s.ret))) =
      List.replicate 3 (some (readerDemo.ovr, 8, some (.applied false))) := by decide

/-- VO15: ten elements for eight channels. -/
theorem test_setovrs_surplus :
    (after (exec (.setovrs [1, 2, 3, 4, 5, 6, 7, 8, 9, 10] 10) demo)).map (fun s => (s.ovr, s.vcc, s.ret)) =
      some ([1, 2, 3, 4, 5, 6, 7, 8], 0x5A, some (.applied true)) := by decide

/-- VI2, the poll between element 0 and element 1. -/
theorem test_setovrs_poll_between :
    (after (exec (.setovrs [1000, 0] 2) { demo with rxq := [0x00], agenda := [[.pollReq]] })).map
        (fun s => (s.readOvr 0, s.vcc, s.ret)) =
      some (1000, 8, some (.applied true)) := by decide

/-- VO12: every override is cleared and the sentinel stays. -/
theorem test_clrovr :
    (after (exec .clrovr { readerDemo with vcc := 0x5A })).map (fun s => (s.ovr, s.vcc)) =
      some (List.replicate 8 0, 0x5A) := by decide

/-- R110, R111. -/
theorem test_csEnter : (after (exec .csEnter demo)).map (·.lock) = some true := by decide
theorem test_csExit : (after (exec .csExit { demo with lock := true })).map (·.lock) = some false := by decide

/-- R112's example: `RESET; INIT` gives the launch state. -/
theorem test_init : after (exec .init (State.resetFor demoCfg)) = some demo := by decide

/-- R140: every register back at its reset value, the parameters and RXQ as they were. -/
theorem test_reset :
    after (exec .reset { readerDemo with initDone := false, rxq := [1, 2], w0 := 0x48, lock := true }) =
      some { State.resetFor demoCfg with rxq := [1, 2] } := by decide

/-- R142: no reset transition after INIT. -/
theorem test_reset_after_launch : exec .reset readerDemo = .refused .resetAfterLaunch := rfl

/-- R90's table, 95_test_vectors.md section 2. -/
theorem test_pulseWidth :
    [0x0000, 0x0707, 0x070A, 0x0BB9, 0x1067, 0x106A, 0x8000, 0xFFFF].map (pulseWidth demoCfg) =
      [900, 900, 901, 1500, 2099, 2100, 2100, 2100] := by decide

/-! ### Witnesses: states and operands that meet the hypotheses of the statements -/

theorem demo_inv : demo.Inv where
  cfg := rfl
  cbLength := rfl
  ovrLength := rfl
  vcc := .inl rfl
  ovr := by
    intro v hv
    rw [List.eq_of_mem_replicate hv]
    decide
  lock := rfl
  rest := ⟨rfl, rfl, rfl, rfl, rfl, rfl, rfl⟩
  script := rfl

theorem witness_DecodeOfEncodeIsTheInstruction : Instr.wf (.setovrs [5, -1, 0] 3) = true := by decide
theorem witness_EncodeOfDecodeIsTheBytes : decode .consumer [1, 8, 7] = .ok (.read 8, [7]) := by decide
theorem witness_UnassignedSelectorsAreRejected : 6 ≤ (6 : Byte).toNat := by decide
/-- Both clauses, after a scanned 0x48: a stream that does not complete the marker, and one that does. -/
theorem witness_WireUnitsCoverTheStream :
    ¬(mark0 = mark0 ∧ ([0x48, 0x43] : List Byte).head? = some mark1) ∧
    (mark0 = mark0 ∧ ([0x43, 0x01] : List Byte).head? = some mark1) := by decide
theorem witness_StepRunsTheDecodedInstruction :
    ({ demo with script := [.op .consumer [1, 0]] } : State).script = .op .consumer [1, 0] :: [] ∧
    decodeWhole .consumer [1, 0] = .ok (.read 0) := by decide
theorem witness_ArrivingBytesJoinTheQueue :
    ({ demo with script := [.rx [0x48]] } : State).script = .rx [0x48] :: [] := by decide
theorem witness_IdleStepHonoursAHeldTrigger :
    ({ demo with held := true } : State).script = [] ∧
    (({ demo with held := true } : State).held = true ∧ ({ demo with held := true } : State).lock = false ∧
      ({ demo with held := true } : State).initDone = true) ∧
    demo.script = [] ∧ ¬(demo.held = true ∧ demo.lock = false ∧ demo.initDone = true) := by decide
theorem witness_UndecodableItemsAreRefusedByName :
    ({ demo with script := [.op .consumer [6]] } : State).script = .op .consumer [6] :: [] ∧
    decodeWhole .consumer [6] = .error (.unassignedSelector 6) := by decide
/-- Both branches, at the ids where they meet: 0 and N + 1 discard, 1 and N write. -/
theorem witness_CommitWritesExactlyOneEntryOrNone :
    demo.cb.length = demo.cfg.n ∧
    [(0x00 : Byte), 0x01, 0x08, 0x09].map (fun id => commits demo.cfg.n id 0x00 0x01) = [false, true, true, false] := by
  decide
theorem witness_ReservedFramesWriteNothing :
    ((0 : Byte) = 0 ∨ ((1 : Byte) = 0 ∧ (0 : Byte) = 0)) ∧ ((1 : Byte) = 0 ∨ ((0 : Byte) = 0 ∧ (0 : Byte) = 0)) := by
  decide
theorem witness_FramesAboveTheLastChannelWriteNothing : demo.cfg.n < (9 : Byte).toNat := by decide
/-- For the statements about a poll, and for those about an operation after INIT. -/
theorem witness_poll_enabled : demo.initDone = true ∧ demo.lock = false := by decide
theorem witness_PollCountSaysWhetherAnyByteCame :
    demo.rxq = [] ∧ ({ demo with rxq := [0x00] } : State).rxq ≠ [] := by decide
/-- A poll whose one frame names entry 0: entry 1 is named by none. -/
theorem witness_PollChangesOnlyTheEntriesItsFramesName :
    (∀ u ∈ wireUnits demo.w0 [0x48, 0x43, 0x01, 0x02, 0x03], unitWrites demo.cfg.n 1 u = false) ∧
    ∃ u ∈ wireUnits demo.w0 [0x48, 0x43, 0x01, 0x02, 0x03], unitWrites demo.cfg.n 0 u = true := by decide
/-- A split between the two marker bytes (VD24) is between units; a split inside the fields (VD22) is not. -/
theorem witness_SplitPollsAgreeWithOnePoll :
    demo.endsBetweenUnits [0x48] ∧ ¬ demo.endsBetweenUnits [0x48, 0x43, 0x03, 0x0B] := by
  constructor
  · rfl
  · intro h
    cases h
/-- Noise before the frame; after it a zero payload for the same channel, a frame for another channel, and noise. -/
theorem witness_LastFrameOfAPollWins :
    demo.initDone = true ∧ demo.lock = false ∧ demo.cb.length = demo.cfg.n ∧
    demo.endsBetweenUnits [0x00] ∧ ((0 : Byte) ≠ 0 ∨ (1 : Byte) ≠ 0) ∧ 1 ≤ (8 : Byte).toNat ∧
    (8 : Byte).toNat ≤ demo.cfg.n ∧
    ∀ u ∈ wireUnits 0x43 [0x48, 0x43, 8, 0, 0, 0x48, 0x43, 7, 0, 1, 0x05],
      unitWrites demo.cfg.n ((8 : Byte).toNat - 1) u = false :=
  ⟨rfl, rfl, rfl, rfl, by decide, by decide, by decide, by decide⟩
theorem witness_PollRaisedUnderLockIsHeld :
    ({ demo with lock := true } : State).initDone = true ∧ ({ demo with lock := true } : State).lock = true := by decide
theorem witness_NothingOfTheBlockChangesUnderLock : ({ demo with lock := true } : State).lock = true := rfl
theorem witness_NumchReturnsTheCount : demo.initDone = true ∧ demo.Inv := ⟨rfl, demo_inv⟩
theorem witness_PulseWidthIsTheClampedHalf : demoCfg.wf = true := by decide
/-- Both clauses of READ, at the channels where they meet: N - 1 and N. -/
theorem witness_ReadDeliversOverrideOrPulseWidth :
    demo.initDone = true ∧ (7 : Byte).toNat < demo.cfg.n ∧ demo.cfg.n ≤ (8 : Byte).toNat ∧ demo.agenda = [] := by decide
theorem witness_ReadsActAsOneTransition :
    demo.initDone = true ∧ demo.lock = false ∧ demo.snap = [] ∧ demo.snapV = 0 ∧ (7 : Byte).toNat < demo.cfg.n := by
  decide
theorem witness_ReadnOfMoreThanNIsReadnOfN : demo.cfg.wf = true ∧ demo.cfg.n ≤ (8 : Byte).toNat := by decide
theorem witness_ReadsAreRepeatable :
    demo.initDone = true ∧ demo.lock = false ∧ demo.agenda = [] ∧ demo.snap = [] ∧ demo.snapV = 0 := by decide
theorem witness_TriggerInsideAReadRunsAfterIt :
    ({ demo with agenda := [[.rx [0x00], .pollReq]] } : State).initDone = true ∧
    ({ demo with agenda := [[.rx [0x00], .pollReq]] } : State).script = [] ∧
    ({ demo with agenda := [[.rx [0x00], .pollReq]] } : State).agenda = [[.rx [0x00], .pollReq]] ∧
    (0 : Byte).toNat < demo.cfg.n := by decide
/-- The three branches of SETOVR: -1 and channel N, then 0, then 1 on channel N - 1. -/
theorem witness_SetovrStoresAndForcesTheCount :
    demo.initDone = true ∧ (-1 : S16).toInt < 0 ∧ demo.cfg.n ≤ (8 : Byte).toNat ∧
    ¬((0 : S16).toInt < 0 ∨ demo.cfg.n ≤ (7 : Byte).toNat) ∧
    ¬((1 : S16).toInt < 0 ∨ demo.cfg.n ≤ (7 : Byte).toNat) ∧ (1 : S16) ≠ 0 := by decide
theorem witness_SetovrsIsSetovrOfEachElement :
    demo.initDone = true ∧ demo.agenda = [] ∧ ([5, -1, 0] : List S16).length = (3 : Byte).toNat := by decide
/-- A run with a poll between the elements that returns true, so that the last clause is met. -/
theorem witness_SetovrsOverridesDoNotDependOnPolls :
    (after (exec (.setovrs [5, 7] 2) { demo with agenda := [[.pollReq]] })).map (·.ret) =
      some (some (.applied true)) := by decide
theorem witness_PollBetweenElementsReplacesTheSentinel :
    demo.initDone = true ∧ demo.lock = false ∧ 1 ≤ demo.cfg.n ∧ 0 < (1 : S16).toInt := by decide
/-- Every clause of the table at the last channel: after INIT and, for INIT itself, before it; a SETOVRS that reaches
the channel with a positive element; a READ for the operations that change nothing. -/
theorem witness_EveryChannelFollowsTheOverrideTable :
    demo.ovr.length = demo.cfg.n ∧ (7 : Byte).toNat < demo.cfg.n ∧ demo.initDone = true ∧
    ([0, 0, 0, 0, 0, 0, -1, 5] : List S16).length = (8 : Byte).toNat ∧
    (State.resetFor demoCfg).ovr.length = demoCfg.n ∧ (State.resetFor demoCfg).initDone = false ∧
    (after (exec (.read 7) demo)).isSome = true := by decide
theorem witness_ReadAfterClrovrIsThePulseWidth :
    readerDemo.initDone = true ∧ (1 : Byte).toNat < readerDemo.cfg.n := by decide
theorem witness_EmptyPollErasesTheSentinelButNotTheOverride :
    demo.initDone = true ∧ demo.lock = false ∧ demo.rxq = [] ∧ demo.ovr.length = demo.cfg.n ∧
    (7 : Byte).toNat < demo.cfg.n ∧ 0 < (30000 : S16).toInt := by decide
theorem witness_InitZeroesOverridesOnce :
    (State.resetFor demoCfg).initDone = false ∧ demo.initDone = true := by decide
theorem witness_reset_enabled : (State.resetFor demoCfg).initDone = false := rfl
theorem witness_ResetAfterLaunchIsRefused : demo.initDone = true := rfl
theorem witness_LaunchStateReadsAsEmpty : demoCfg.wf = true := by decide
theorem witness_OperationsBeforeInitAreRefused :
    Instr.needsInit .poll = true ∧ (State.resetFor demoCfg).initDone = false := by decide
theorem witness_OnlyTheLaunchPremisesStopAnInstruction :
    (Instr.needsInit .poll = true → demo.initDone = true) ∧
    ((Instr.poll = .init ∨ Instr.poll = .reset) → demo.initDone = false) := by
  decide
theorem witness_NoStepReturnsALaunchedBlockToReset :
    readerDemo.initDone = true ∧ readerDemo.readCb 7 ≠ 0 ∧
    (after (step { readerDemo with script := [.op .pollReq [1]] })).isSome = true := by decide
/-- A step from a state with the invariant: the first line of a script of external items. -/
theorem witness_EveryStepKeepsTheInvariant :
    State.Inv { demo with script := [.op .pollReq [1]] } ∧
    (after (step { demo with script := [.op .pollReq [1]] })).isSome = true :=
  ⟨⟨rfl, rfl, rfl, .inl rfl, demo_inv.ovr, rfl, ⟨rfl, rfl, rfl, rfl, rfl, rfl, rfl⟩, rfl⟩, by decide⟩
theorem witness_NoStepChangesTheParameters :
    (after (step { demo with script := [.op .consumer [5]] })).isSome = true := by decide
theorem witness_CapturedEntriesNeverReturnToZero :
    Instr.poll ≠ .reset ∧ (after (exec .poll readerDemo)).isSome = true ∧ readerDemo.readCb 7 ≠ 0 := by decide
theorem witness_OnlyTheProducerWritesItsState :
    Instr.port (.setovr 0 5) = .consumer ∧ Instr.port .csEnter = .lock ∧ Instr.port .init = .initReq ∧
    demo.agenda = [] ∧ (after (exec (.setovr 0 5) demo)).isSome = true ∧
    (after (exec .csEnter demo)).isSome = true ∧ (after (exec .init (State.resetFor demoCfg))).isSome = true := by decide
/-- READ with a poll beside it: it is none of the five operations. -/
theorem witness_OnlyOverrideOperationsChangeOverrides :
    (∀ c v, Instr.read 1 ≠ .setovr c v) ∧ (∀ vs len, Instr.read 1 ≠ .setovrs vs len) ∧ Instr.read 1 ≠ .clrovr ∧
    Instr.read 1 ≠ .init ∧ Instr.read 1 ≠ .reset ∧
    (after (exec (.read 1) { readerDemo with agenda := [[], [.pollReq]] })).isSome = true :=
  ⟨nofun, nofun, nofun, nofun, nofun, by decide⟩
theorem witness_CountIsNeverPartialWithoutOverrides :
    (∀ c v, Instr.poll ≠ .setovr c v) ∧ (∀ vs len, Instr.poll ≠ .setovrs vs len) ∧
    readerDemo.vcc = BitVec.ofNat 8 readerDemo.cfg.n ∧ (after (exec .poll readerDemo)).isSome = true :=
  ⟨nofun, nofun, rfl, by decide⟩

end Sys2Proof.Tests
end

section
/-! PROOFS. The read of the count on the consumer port: NUMCH (41_channel_reader.md, section 2). -/

namespace Sys2Proof.Machine

theorem exec_numch (s : State) : exec .numch s = execNumch s := rfl

/-- Once INIT has completed, NUMCH hands back VCC and ends there. -/
theorem execNumch_ready {s : State} (ready : s.initDone = true) :
    execNumch s = .next (s.handBack (.count s.vcc)) :=
  whenReady_ready ready

/-- Settles O25: what NUMCH answers is one `handBack`, which writes `ret` alone, and the values VCC can have are a
clause of R19's invariant. -/
theorem numchReturnsTheCount : Obligations.NumchReturnsTheCount := by
  intro s ready
  constructor
  · calc exec .numch s = execNumch s := exec_numch s
      _ = .next (s.handBack (.count s.vcc)) := execNumch_ready ready
      _ = .next { s with ret := some (.count s.vcc) } := rfl
  · intro inv
    exact inv.vcc

end Sys2Proof.Machine
end

section
/-! PROOFS. Clearing the override table on the consumer port: CLROVR (42_override.md, R102). -/

namespace Sys2Proof.Machine

theorem exec_clrovr (s : State) : exec .clrovr s = execClrovr s := rfl

/-- Once INIT has completed, CLROVR clears OVR and hands back no value. -/
theorem execClrovr_ready {s : State} (ready : s.initDone = true) :
    execClrovr s = .next (s.clearOvr.handBack .done) :=
  whenReady_ready ready

@[simp] theorem handBack_overridden (s : State) (r : Result) (c : Nat) :
    (s.handBack r).overridden c = s.overridden c := rfl

/-- An entry of the cleared table is 0, and so is the answer for an index past its end. -/
@[simp] theorem clearOvr_readOvr (s : State) (c : Nat) : s.clearOvr.readOvr c = 0 := by
  rw [State.readOvr, clearOvr_ovr, List.getD_eq_getElem?_getD]
  exact List.getElem?_getD_replicate_default_eq 0 s.cfg.n c

theorem overridden_eq_false_iff {s : State} {c : Nat} : s.overridden c = false ↔ s.readOvr c = 0 :=
  bne_eq_false_iff_eq

/-- Settles O37: CLROVR is `clearOvr`, which writes OVR alone, followed by a `handBack`, and a cleared table reads 0 at
every index. -/
theorem clrovrMakesEveryChannelNormal : Obligations.ClrovrMakesEveryChannelNormal := by
  intro s ready
  have answers : exec .clrovr s = .next (s.clearOvr.handBack .done) :=
    (exec_clrovr s).trans (execClrovr_ready ready)
  refine ⟨s.clearOvr.handBack .done, answers, rfl, fun c => ?_⟩
  rw [handBack_overridden, overridden_eq_false_iff]
  exact clearOvr_readOvr s c

end Sys2Proof.Machine
end

section
/-! PROOFS. The decoder and the encoder agree (30_encoding.md sections 1, 3 and 5): every well-formed instruction comes
back from its bytes, and whatever is accepted is an encoding. -/

namespace Sys2Proof

/-! ### 16-bit operands -/

theorem takeValues_flatMap_encodeValue (vs : List S16) (rest : List Byte) :
    takeValues vs.length (vs.flatMap encodeValue ++ rest) = some (vs, rest) := by
  induction vs with
  | nil => rfl
  | cons v vs ih => simp [encodeValue, takeValues, ih]

theorem takeValues_some {k : Nat} {bs rest : List Byte} {vs : List S16} (h : takeValues k bs = some (vs, rest)) :
    vs.length = k ∧ vs.flatMap encodeValue ++ rest = bs := by
  induction k, bs using takeValues.induct generalizing vs rest with
  | case1 bs =>
    obtain ⟨rfl, rfl⟩ : [] = vs ∧ bs = rest := by simpa [takeValues] using h
    simp
  | case2 k high low bs ws tail found ih =>
    obtain ⟨rfl, rfl⟩ : joinBytes high low :: ws = vs ∧ tail = rest := by simpa [takeValues, found] using h
    obtain ⟨hlen, hbytes⟩ := ih found
    simp [encodeValue, hlen, hbytes]
  | case3 k high low bs none_left => simp [takeValues, none_left] at h
  | case4 k bs short =>
    match bs with
    | [] => cases h
    | [_] => cases h
    | high :: low :: bs => exact absurd rfl (short high low bs)

/-! ### The wire port -/

/-- The bytes of a frame are its marker and its fields, however many of the fields the stream supplies. -/
theorem encode_decodeFields (fields : List Byte) :
    encode (decodeFields fields).1 ++ (decodeFields fields).2 = mark0 :: mark1 :: fields := by
  match fields with
  | [] => rfl
  | [_] => rfl
  | [_, _] => rfl
  | _ :: _ :: _ :: _ => rfl

theorem decodeFields_wire (fields : List Byte) :
    (decodeFields fields).1.port = .wire ∧ (decodeFields fields).1.wf = true ∧
      windowAfter (decodeFields fields).1 = mark1 := by
  match fields with
  | [] => exact ⟨rfl, rfl, rfl⟩
  | [_] => exact ⟨rfl, rfl, rfl⟩
  | [_, _] => exact ⟨rfl, rfl, rfl⟩
  | _ :: _ :: _ :: _ => exact ⟨rfl, rfl, rfl⟩

theorem decodeFields_rest_length (fields : List Byte) : (decodeFields fields).2.length ≤ fields.length := by
  match fields with
  | [] => exact le_rfl
  | [_] => exact Nat.zero_le _
  | [_, _] => exact Nat.zero_le _
  | _ :: _ :: _ :: rest => simp only [decodeFields, List.length_cons]; omega

/-- A byte that completes a marker whose first byte was scanned before it opens a frame. -/
theorem decodeWire_completes (fields : List Byte) :
    decodeWire mark0 (mark1 :: fields) = .ok (decodeFields fields) := by
  simp [decodeWire]

/-- A whole marker opens a frame, whatever was scanned before it. -/
theorem decodeWire_marker (before : Byte) (fields : List Byte) :
    decodeWire before (mark0 :: mark1 :: fields) = .ok (decodeFields fields) := by
  simp [decodeWire, mark0, mark1]

theorem decodeWire_skip {before b : Byte} {rest : List Byte} (noEnd : ¬(before = mark0 ∧ b = mark1))
    (noStart : ¬(b = mark0 ∧ rest.head? = some mark1)) : decodeWire before (b :: rest) = .ok (.skip b, rest) := by
  cases rest with
  | nil => simp [decodeWire, noEnd]
  | cons b' rest =>
    by_cases hb : b = mark0
    · simp_all [decodeWire]
    · simp [decodeWire, noEnd, hb]

/-- The three ways a wire unit can begin (R53): with the end of a marker opened before, with a whole marker, or with a
byte that is skipped. -/
theorem decodeWire_cases {before : Byte} {bs rest : List Byte} {i : Instr} (h : decodeWire before bs = .ok (i, rest)) :
    (∃ fields, before = mark0 ∧ bs = mark1 :: fields ∧ decodeFields fields = (i, rest)) ∨
    (∃ fields, bs = mark0 :: mark1 :: fields ∧ decodeFields fields = (i, rest)) ∨
    (∃ b, bs = b :: rest ∧ i = .skip b ∧ ¬(before = mark0 ∧ b = mark1) ∧
      ¬(b = mark0 ∧ rest.head? = some mark1)) := by
  match bs with
  | [] => cases h
  | b :: tail =>
    by_cases ends : before = mark0 ∧ b = mark1
    · obtain ⟨rfl, rfl⟩ := ends
      rw [decodeWire_completes] at h
      exact .inl ⟨tail, rfl, rfl, by injection h⟩
    by_cases starts : b = mark0 ∧ tail.head? = some mark1
    · obtain ⟨rfl, starts⟩ := starts
      obtain ⟨fields, rfl⟩ := List.head?_eq_some_iff.mp starts
      rw [decodeWire_marker] at h
      exact .inr (.inl ⟨fields, rfl, by injection h⟩)
    · rw [decodeWire_skip ends starts] at h
      obtain ⟨rfl, rfl⟩ : .skip b = i ∧ tail = rest := by simpa using h
      exact .inr (.inr ⟨b, rfl, rfl, ends, starts⟩)

/-! ### Each port, both ways -/

theorem decodeStrobe_ok {e i : Instr} {bs rest : List Byte} (h : decodeStrobe e bs = .ok (i, rest)) :
    bs = 1 :: rest ∧ i = e := by
  unfold decodeStrobe at h
  split at h
  · cases h
  · split at h
    · cases h
      exact ⟨by simp_all, rfl⟩
    · cases h

theorem decodeLock_ok {i : Instr} {bs rest : List Byte} (h : decodeLock bs = .ok (i, rest)) :
    (bs = 1 :: rest ∧ i = .csEnter) ∨ (bs = 0 :: rest ∧ i = .csExit) := by
  unfold decodeLock at h
  split at h
  · cases h
  · split at h
    · cases h
      exact .inl ⟨by simp_all, rfl⟩
    · split at h
      · cases h
        exact .inr ⟨by simp_all, rfl⟩
      · cases h

/-- What the decoder of the consumer port accepts, one disjunct per assigned selector of R59. -/
theorem decodeConsumer_ok {i : Instr} {bs rest : List Byte} (h : decodeConsumer bs = .ok (i, rest)) :
    (bs = 0 :: rest ∧ i = .numch) ∨
    (∃ c, bs = 1 :: c :: rest ∧ i = .read c) ∨
    (∃ m, bs = 2 :: m :: rest ∧ i = .readn m) ∨
    (∃ c high low, bs = 3 :: c :: high :: low :: rest ∧ i = .setovr c (joinBytes high low)) ∨
    (∃ len tail vs, bs = 4 :: len :: tail ∧ takeValues len.toNat tail = some (vs, rest) ∧ i = .setovrs vs len) ∨
    (bs = 5 :: rest ∧ i = .clrovr) := by
  cases bs with
  | nil => cases h
  | cons sel tail =>
    simp only [decodeConsumer] at h
    split_ifs at h with h0 h1 h2 h3 h4 h5
    · cases h
      exact .inl ⟨by rw [h0], rfl⟩
    · split at h <;> cases h
      exact .inr (.inl ⟨_, by rw [h1], rfl⟩)
    · split at h <;> cases h
      exact .inr (.inr (.inl ⟨_, by rw [h2], rfl⟩))
    · split at h <;> cases h
      exact .inr (.inr (.inr (.inl ⟨_, _, _, by rw [h3], rfl⟩)))
    · split at h
      · split at h
        · rename_i taken
          cases h
          exact .inr (.inr (.inr (.inr (.inl ⟨_, _, _, by rw [h4], taken, rfl⟩))))
        · cases h
      · cases h
    · cases h
      exact .inr (.inr (.inr (.inr (.inr ⟨by rw [h5], rfl⟩))))

/-- Whatever a wire unit begins with, it is a wire instruction, it takes up at least one byte, and its encoding is the
bytes it took, after the earlier marker byte where it completes a marker. -/
theorem decodeWire_ok {before : Byte} {bs rest : List Byte} {i : Instr} (h : decodeWire before bs = .ok (i, rest)) :
    i.port = .wire ∧ i.wf = true ∧ rest.length < bs.length ∧
      (¬(before = mark0 ∧ bs.head? = some mark1) → encode i ++ rest = bs) ∧
      ((before = mark0 ∧ bs.head? = some mark1) → encode i ++ rest = before :: bs) ∧
      ¬(windowAfter i = mark0 ∧ rest.head? = some mark1) := by
  have frame : ∀ fields, decodeFields fields = (i, rest) →
      i.port = .wire ∧ i.wf = true ∧ rest.length ≤ fields.length ∧ encode i ++ rest = mark0 :: mark1 :: fields ∧
        ¬(windowAfter i = mark0 ∧ rest.head? = some mark1) := by
    intro fields hf
    have bytes := encode_decodeFields fields
    have short := decodeFields_rest_length fields
    obtain ⟨port, wf, window⟩ := decodeFields_wire fields
    rw [hf] at bytes short port wf window
    exact ⟨port, wf, short, bytes, by rw [window]; rintro ⟨marks, -⟩; cases marks⟩
  obtain ⟨fields, rfl, rfl, hf⟩ | ⟨fields, rfl, hf⟩ | ⟨b, rfl, rfl, noEnd, noStart⟩ := decodeWire_cases h
  · obtain ⟨port, wf, short, bytes, window⟩ := frame fields hf
    exact ⟨port, wf, by simp; omega, fun no => absurd ⟨rfl, rfl⟩ no, fun _ => bytes, window⟩
  · obtain ⟨port, wf, short, bytes, window⟩ := frame fields hf
    refine ⟨port, wf, by simp; omega, fun _ => bytes, ?_, window⟩
    rintro ⟨-, head⟩
    cases head
  · refine ⟨rfl, rfl, by simp, fun _ => rfl, ?_, noStart⟩
    rintro ⟨rfl, head⟩
    exact absurd ⟨rfl, by simpa using head⟩ noEnd

/-! ### The round trips -/

/-- Settles O1, by the constructors: on its own port each encoding meets the branch of the decoder that answers it, and
SETOVRS reads back its values by induction on their number. -/
theorem decodeOfEncodeIsTheInstruction : Obligations.DecodeOfEncodeIsTheInstruction := by
  intro i wf
  cases i with
  | frame id high low => exact decodeWire_marker 0 [id, high, low]
  | frameT2 id high => exact decodeWire_marker 0 [id, high]
  | frameT1 id => exact decodeWire_marker 0 [id]
  | frameT0 => exact decodeWire_marker 0 []
  | skip b =>
    have noEnd : ¬((0 : Byte) = mark0 ∧ b = mark1) := fun ⟨marks, _⟩ => absurd marks (by decide)
    exact decodeWire_skip noEnd (by simp)
  | setovr c v => simp [decode, Instr.port, encode, encodeValue, decodeConsumer]
  | setovrs vs len =>
    have count : vs.length = len.toNat := by simpa [Instr.wf] using wf
    have values := takeValues_flatMap_encodeValue vs []
    rw [List.append_nil, count] at values
    simp [decode, Instr.port, encode, decodeConsumer, values]
  | poll | numch | read | readn | clrovr | csEnter | csExit | init | reset => rfl

/-- Settles O2, port by port: what each port's decoder accepts, written out, is what the encoder gives back. -/
theorem encodeOfDecodeIsTheBytes : Obligations.EncodeOfDecodeIsTheBytes := by
  intro p bs i rest h
  cases p with
  | wire =>
    obtain ⟨port, wf, -, bytes, -, -⟩ := decodeWire_ok h
    exact ⟨bytes (fun h => absurd h.1 (by decide)), port, wf⟩
  | pollReq =>
    obtain ⟨rfl, rfl⟩ := decodeStrobe_ok h
    exact ⟨rfl, rfl, rfl⟩
  | consumer =>
    obtain ⟨rfl, rfl⟩ | ⟨c, rfl, rfl⟩ | ⟨m, rfl, rfl⟩ | ⟨c, high, low, rfl, rfl⟩ | ⟨len, tail, vs, rfl, taken, rfl⟩ |
      ⟨rfl, rfl⟩ := decodeConsumer_ok h
    · exact ⟨rfl, rfl, rfl⟩
    · exact ⟨rfl, rfl, rfl⟩
    · exact ⟨rfl, rfl, rfl⟩
    · exact ⟨by simp [encode, encodeValue], rfl, rfl⟩
    · obtain ⟨count, bytes⟩ := takeValues_some taken
      exact ⟨by simp [encode, bytes], rfl, by simp [Instr.wf, count]⟩
    · exact ⟨rfl, rfl, rfl⟩
  | lock =>
    obtain ⟨rfl, rfl⟩ | ⟨rfl, rfl⟩ := decodeLock_ok h
    · exact ⟨rfl, rfl, rfl⟩
    · exact ⟨rfl, rfl, rfl⟩
  | initReq =>
    obtain ⟨rfl, rfl⟩ := decodeStrobe_ok h
    exact ⟨rfl, rfl, rfl⟩
  | rst =>
    obtain ⟨rfl, rfl⟩ := decodeStrobe_ok h
    exact ⟨rfl, rfl, rfl⟩

/-- Settles O3: each line is one closed run of the decoder. -/
theorem writtenOutEncodingsDecode : Obligations.WrittenOutEncodingsDecode := by
  refine ⟨?_, ?_, ?_, ?_, ?_, ?_, ?_, ?_⟩ <;> decide

/-- Settles O4: a selector from 6 up is none of the six assigned ones, so the last branch of the decoder answers. -/
theorem unassignedSelectorsAreRejected : Obligations.UnassignedSelectorsAreRejected := by
  intro sel rest wide
  have unassigned : ∀ k : Byte, k.toNat < 6 → sel ≠ k := by
    rintro k small rfl
    omega
  simp only [decode, decodeConsumer, unassigned 0 (by decide), unassigned 1 (by decide), unassigned 2 (by decide),
    unassigned 3 (by decide), unassigned 4 (by decide), unassigned 5 (by decide), if_false]

/-! ### The division of a stream into wire units -/

theorem decodeWire_total (before b : Byte) (tail : List Byte) :
    ∃ i rest, decodeWire before (b :: tail) = .ok (i, rest) := by
  simp only [decodeWire]
  split_ifs
  · exact ⟨_, _, rfl⟩
  · split
    · exact ⟨_, _, rfl⟩
    · split_ifs <;> exact ⟨_, _, rfl⟩
  · exact ⟨_, _, rfl⟩

theorem wireUnitsUpTo_cons {before b : Byte} {tail rest : List Byte} {i : Instr} (fuel : Nat)
    (h : decodeWire before (b :: tail) = .ok (i, rest)) :
    wireUnitsUpTo (fuel + 1) before (b :: tail) = i :: wireUnitsUpTo fuel (windowAfter i) rest := by
  simp [wireUnitsUpTo, h]

/-- With fuel for every byte, the units found join to the stream, after the earlier marker byte where the stream opens
by completing a marker. -/
theorem wireUnitsUpTo_flatMap_encode (fuel : Nat) (before : Byte) (bs : List Byte) (enough : bs.length ≤ fuel) :
    (¬(before = mark0 ∧ bs.head? = some mark1) → (wireUnitsUpTo fuel before bs).flatMap encode = bs) ∧
    ((before = mark0 ∧ bs.head? = some mark1) →
      (wireUnitsUpTo fuel before bs).flatMap encode = before :: bs) := by
  induction fuel generalizing before bs with
  | zero =>
    obtain rfl : bs = [] := List.length_eq_zero_iff.mp (Nat.le_zero.mp enough)
    simp [wireUnitsUpTo]
  | succ fuel ih =>
    cases bs with
    | nil => simp [wireUnitsUpTo, decodeWire]
    | cons b tail =>
      obtain ⟨i, rest, found⟩ := decodeWire_total before b tail
      obtain ⟨-, -, shorter, apart, joined, clear⟩ := decodeWire_ok found
      have fits : rest.length ≤ fuel := by simp only [List.length_cons] at shorter enough; omega
      have later := (ih (windowAfter i) rest fits).1 clear
      rw [wireUnitsUpTo_cons fuel found, List.flatMap_cons, later]
      exact ⟨apart, joined⟩

/-- Settles O5: one unit per step, each taking at least one byte, so the stream's own length is fuel enough. -/
theorem wireUnitsCoverTheStream : Obligations.WireUnitsCoverTheStream := fun before bs =>
  wireUnitsUpTo_flatMap_encode bs.length before bs le_rfl

end Sys2Proof
end

section
/-! PROOFS. One step of the machine and its script (log entries 3, 4, 10): what each kind of item does. -/

namespace Sys2Proof.Machine

theorem exec_poll (s : State) : exec .poll s = execPoll s := rfl

/-- Once INIT has completed, POLL is the poll trigger. -/
theorem exec_poll_ready {s : State} (ready : s.initDone = true) : exec .poll s = .next s.raisePoll :=
  (exec_poll s).trans (whenReady_ready ready)

/-- An idle step honours a trigger exactly where one is held and may run. -/
theorem wait_honours {s : State} (h : s.held = true ∧ s.lock = false ∧ s.initDone = true) :
    s.wait = s.raisePoll := by
  obtain ⟨held, unlocked, ready⟩ := h
  simp [State.wait, held, unlocked, ready]

theorem wait_idle {s : State} (h : ¬(s.held = true ∧ s.lock = false ∧ s.initDone = true)) : s.wait = s := by
  unfold State.wait
  rw [if_neg]
  simpa [and_assoc] using h

theorem step_idle {s : State} (h : s.script = []) : step s = .next s.wait := by
  simp [step, fetch_idle h]

/-- Settles O6. -/
theorem stepRunsTheDecodedInstruction : Obligations.StepRunsTheDecodedInstruction := by
  intro s p bs rest i item decodes
  simp [step, fetch_op item decodes]

/-- Settles O7. -/
theorem arrivingBytesJoinTheQueue : Obligations.ArrivingBytesJoinTheQueue := by
  intro s bs rest item
  simp [step, fetch_rx item]

/-- Settles O8: the two cases of `State.wait`. -/
theorem idleStepHonoursAHeldTrigger : Obligations.IdleStepHonoursAHeldTrigger := by
  intro s done
  constructor
  · intro h
    rw [step_idle done, wait_honours h, exec_poll_ready h.2.2]
  · intro h
    rw [step_idle done, wait_idle h]

/-- Settles O9. -/
theorem undecodableItemsAreRefusedByName : Obligations.UndecodableItemsAreRefusedByName := by
  intro s p bs rest e item rejects
  simp [step, fetch_bad item rejects]

end Sys2Proof.Machine
end

section
/-! PROOFS. The instructions a poll finds in the stream (40_frame_decoder.md sections 2 and 3): SKIP, FRAME and the
three truncated frames, which are the full frame with zeros for what is missing. -/

namespace Sys2Proof.Machine

/-! ### What a captured frame writes (R74) -/

/-- R74 with its guard as propositions and its value as R52 writes it. -/
theorem committed_eq (n : Nat) (cb : List U16) (id high low : Byte) :
    committed n cb id high low =
      if (high ≠ 0 ∨ low ≠ 0) ∧ 1 ≤ id.toNat ∧ id.toNat ≤ n then
        cb.set (id.toNat - 1) ((high.setWidth 16 <<< 8) ||| low.setWidth 16)
      else cb := by
  by_cases guard : (high ≠ 0 ∨ low ≠ 0) ∧ 1 ≤ id.toNat ∧ id.toNat ≤ n
  · rw [if_pos guard, committed_of_commits (commits_iff.mpr guard), joinBytes]
  · rw [if_neg guard, committed_of_discards (Bool.eq_false_iff.mpr fun c => guard (commits_iff.mp c))]

theorem committed_zero_payload (n : Nat) (cb : List U16) (id : Byte) : committed n cb id 0 0 = cb :=
  committed_of_discards rfl

theorem committed_getD_same {n : Nat} {cb : List U16} {id high low : Byte} (len : cb.length = n)
    (c : commits n id high low = true) :
    (committed n cb id high low).getD (id.toNat - 1) 0 = joinBytes high low := by
  obtain ⟨-, low1, atMost⟩ := commits_iff.mp c
  have inside : id.toNat - 1 < cb.length := by omega
  simp [committed_of_commits c, List.getD_eq_getElem?_getD, inside]

theorem committed_getD_other {n i : Nat} {cb : List U16} {id high low : Byte} (other : i ≠ id.toNat - 1) :
    (committed n cb id high low).getD i 0 = cb.getD i 0 := by
  unfold committed
  split
  · simp [List.getD_eq_getElem?_getD, Ne.symm other]
  · rfl

/-- R56: what a frame commits is never 0. -/
theorem joinBytes_ne_zero_of_commits {n : Nat} {id high low : Byte} (c : commits n id high low = true) :
    joinBytes high low ≠ 0 := by
  obtain ⟨payload, -, -⟩ := commits_iff.mp c
  rw [Ne, joinBytes_eq_zero]
  tauto

/-! ### The five wire instructions -/

theorem exec_skip (s : State) (b : Byte) : exec (.skip b) s = .next (s.scanByte b) := rfl

theorem exec_frame (s : State) (id high low : Byte) :
    exec (.frame id high low) s =
      .next
        { s with
          w1 := mark0, w0 := mark1, fId := id, fHi := high, fLo := low, ph := .scan
          cb := committed s.cfg.n s.cb id high low } := by
  change Host.Outcome.next (((s.scanMarker.takeId id).takeHigh high).takeLow low) = _
  rw [scanMarker_eq]
  rfl

/-- R73: the missing low byte is 0. -/
theorem exec_frameT2 (s : State) (id high : Byte) : exec (.frameT2 id high) s = exec (.frame id high 0) s := by
  rw [exec_frame]
  change Host.Outcome.next ((s.scanMarker.takeId id).takeHigh high).closeFrame = _
  rw [scanMarker_eq]
  rfl

/-- R73: the missing payload is 0. -/
theorem exec_frameT1 (s : State) (id : Byte) : exec (.frameT1 id) s = exec (.frame id 0 0) s := by
  rw [exec_frame]
  change Host.Outcome.next (s.scanMarker.takeId id).closeFrame = _
  rw [scanMarker_eq]
  rfl

/-- R73: all three missing fields are 0. -/
theorem exec_frameT0 (s : State) : exec .frameT0 s = exec (.frame 0 0 0) s := by
  rw [exec_frame]
  change Host.Outcome.next s.scanMarker.closeFrame = _
  rw [scanMarker_eq]
  rfl

/-- A frame that R74's guard discards leaves the capture buffer as it was. -/
theorem exec_frame_discarded {s : State} {id high low : Byte} (d : commits s.cfg.n id high low = false) :
    exec (.frame id high low) s =
      .next { s with w1 := mark0, w0 := mark1, fId := id, fHi := high, fLo := low, ph := .scan } := by
  rw [exec_frame, committed_of_discards d]

theorem markerAt_iff {older newer : Byte} : markerAt older newer = true ↔ older = mark0 ∧ newer = mark1 := by
  simp [markerAt]

/-- Settles O10: the two branches of `State.scanByte`. -/
theorem skipShiftsAndComparesTheWindow : Obligations.SkipShiftsAndComparesTheWindow := by
  intro s b
  rw [exec_skip]
  by_cases marker : s.w0 = 0x48 ∧ b = 0x43
  · rw [if_pos marker, scanByte_match (markerAt_iff.mpr marker)]
  · rw [if_neg marker, scanByte_noMatch (Bool.eq_false_iff.mpr fun m => marker (markerAt_iff.mp m))]

/-- Settles O11. -/
theorem frameCapturesAndCommits : Obligations.FrameCapturesAndCommits := by
  intro s id high low
  rw [exec_frame, committed_eq]
  rfl

/-- Settles O12: the entry a frame names is R74's, the others are those of a list with one entry set. -/
theorem commitWritesExactlyOneEntryOrNone : Obligations.CommitWritesExactlyOneEntryOrNone := by
  intro s id high low len
  refine ⟨_, exec_frame s id high low, ?_, rfl⟩
  by_cases guard : (high ≠ 0 ∨ low ≠ 0) ∧ 1 ≤ id.toNat ∧ id.toNat ≤ s.cfg.n
  · have c := commits_iff.mpr guard
    have written := committed_getD_same len c
    rw [if_pos guard]
    refine ⟨written, ?_, ?_, fun i other => committed_getD_other other⟩
    · rw [← joinBytes_toNat]
      exact congrArg BitVec.toNat written
    · exact written.trans_ne (joinBytes_ne_zero_of_commits c)
  · rw [if_neg guard]
    exact committed_of_discards (Bool.eq_false_iff.mpr fun c => guard (commits_iff.mp c))

/-- Settles O13: each of the two reserved forms fails R74's guard. -/
theorem reservedFramesWriteNothing : Obligations.ReservedFramesWriteNothing := by
  intro s id high low reserved
  refine exec_frame_discarded (Bool.eq_false_iff.mpr fun c => ?_)
  obtain ⟨payload, positive, -⟩ := commits_iff.mp c
  obtain rfl | ⟨rfl, rfl⟩ := reserved
  · simp at positive
  · simp at payload

/-- Settles O14: an id above N fails R74's upper guard (D10). -/
theorem framesAboveTheLastChannelWriteNothing : Obligations.FramesAboveTheLastChannelWriteNothing := by
  intro s id high low above
  refine exec_frame_discarded (Bool.eq_false_iff.mpr fun c => ?_)
  obtain ⟨-, -, atMost⟩ := commits_iff.mp c
  omega

/-- Settles O15: each truncated frame is the full frame with zeros, and a zero payload commits nothing. -/
theorem truncatedFramesAreZeroFilled : Obligations.TruncatedFramesAreZeroFilled := by
  intro s id high
  refine ⟨?_, ?_, ?_⟩
  · rw [exec_frameT2, exec_frame, committed_eq]
    simp [mark0, mark1]
  · rw [exec_frameT1, exec_frame_discarded rfl]
    rfl
  · rw [exec_frameT0, exec_frame_discarded rfl]
    rfl

end Sys2Proof.Machine
end

section
/-! PROOFS. The poll (40_frame_decoder.md): the byte-by-byte loop of R70 and the wire units of R53 both compute the
function of R78, and what is claimed of a poll follows from that function. -/

namespace Sys2Proof.Machine

/-! ### The function of R78 -/

/-- R78's guarded write is R74's. -/
theorem pollFunctionWrite_eq (n : Nat) (cb : List U16) (id high low : Byte) :
    pollFunctionWrite n cb id high low = committed n cb id high low := by
  have value : BitVec.ofNat 16 (high.toNat * 256 + low.toNat) = joinBytes high low := by
    rw [← joinBytes_toNat, BitVec.ofNat_toNat, BitVec.setWidth_eq]
  rw [committed_eq, pollFunctionWrite, value]
  rfl

theorem pollFunction_skip {n : Nat} {w0 b : Byte} (w1 : Byte) (cb : List U16) (rest : List Byte)
    (noEnd : ¬(w0 = mark0 ∧ b = mark1)) :
    pollFunction n w1 w0 cb (b :: rest) = pollFunction n w0 b cb rest := by
  rw [pollFunction.eq_def]
  simp only [if_neg noEnd]

/-- What committing any frame keeps of the capture buffer, R78's function keeps. -/
theorem pollFunction_preserves {P : List U16 → Prop} {n : Nat}
    (commit : ∀ cb id high low, P cb → P (committed n cb id high low)) (w1 w0 : Byte) (cb : List U16) (bs : List Byte)
    (start : P cb) : P (pollFunction n w1 w0 cb bs).2.2 := by
  induction w1, w0, cb, bs using pollFunction.induct_unfolding n with
  | case1 => exact start
  | case2 w1 w0 cb b marker => exact pollFunctionWrite_eq n cb 0 0 0 ▸ commit cb 0 0 0 start
  | case3 w1 w0 cb b marker id => exact pollFunctionWrite_eq n cb id 0 0 ▸ commit cb id 0 0 start
  | case4 w1 w0 cb b marker id high => exact pollFunctionWrite_eq n cb id high 0 ▸ commit cb id high 0 start
  | case5 w1 w0 cb b marker id high low rest ih =>
    rw [pollFunctionWrite_eq] at ih ⊢
    exact ih (commit _ _ _ _ start)
  | case6 w1 w0 cb b rest noEnd ih => exact ih start

theorem pollFunction_cbLength (n : Nat) (w1 w0 : Byte) (cb : List U16) (bs : List Byte) :
    (pollFunction n w1 w0 cb bs).2.2.length = cb.length :=
  pollFunction_preserves (P := fun t => t.length = cb.length)
    (fun _ _ _ _ len => (committed_length _ _ _ _ _).trans len) w1 w0 cb bs rfl

/-! ### The loop of R70 computes it -/

/-- The state in phase SCAN, with the window, the capture buffer and the latches given. -/
def State.scanning (s : State) (w1 w0 : Byte) (cb : List U16) (fId fHi fLo : Byte) : State :=
  { s with w1 := w1, w0 := w0, cb := cb, fId := fId, fHi := fHi, fLo := fLo, ph := .scan }

theorem scanning_self {s : State} (scan : s.ph = .scan) :
    s.scanning s.w1 s.w0 s.cb s.fId s.fHi s.fLo = s := by
  rw [State.scanning, ← scan]

/-- The state after a match of the window: phase ID, the latches cleared. -/
def State.matched (s : State) (w1 w0 : Byte) (cb : List U16) : State :=
  { s.scanning w1 w0 cb 0 0 0 with ph := .id }

/-- The state that a poll leaves which found the given window and capture buffer. -/
def State.polledTo (s : State) (found : Byte × Byte × List U16) (anyByte : Bool) : State :=
  { s with
    w1 := found.1, w0 := found.2.1, cb := found.2.2, vcc := countAfterPoll s.cfg anyByte, rxq := []
    ph := .scan, fId := 0, fHi := 0, fLo := 0, anyByte := false }

section Loop

variable (s : State) {w1 w0 b : Byte} (cb : List U16) (fId fHi fLo : Byte) (rest : List Byte)

theorem pollLoop_scanning_skip (noEnd : ¬(w0 = mark0 ∧ b = mark1)) :
    (s.scanning w1 w0 cb fId fHi fLo).pollLoop (b :: rest) =
      ((s.byteRead rest).scanning w0 b cb fId fHi fLo).pollLoop rest := by
  have noMatch : markerAt w0 b = false := Bool.eq_false_iff.mpr fun m => noEnd (markerAt_iff.mp m)
  change State.pollLoop (((s.scanning w1 w0 cb fId fHi fLo).byteRead rest).scanByte b) rest = _
  rw [scanByte_noMatch (by exact noMatch)]
  rfl

theorem pollLoop_scanning_marker (marker : w0 = mark0 ∧ b = mark1) :
    (s.scanning w1 w0 cb fId fHi fLo).pollLoop (b :: rest) = ((s.byteRead rest).matched w0 b cb).pollLoop rest := by
  have isMatch : markerAt w0 b = true := markerAt_iff.mpr marker
  change State.pollLoop (((s.scanning w1 w0 cb fId fHi fLo).byteRead rest).scanByte b) rest = _
  rw [scanByte_match (by exact isMatch)]
  rfl

theorem pollLoop_matched_fields (id high low : Byte) :
    (s.matched w1 w0 cb).pollLoop (id :: high :: low :: rest) =
      ((s.byteRead rest).scanning w1 w0 (committed s.cfg.n cb id high low) id high low).pollLoop rest := rfl

end Loop

/-- The loop over the bytes, the frame closed and the poll finished, is R78's function of the window and the capture
buffer it started with. -/
theorem pollLoop_computes_function (n : Nat) (w1 w0 : Byte) (cb : List U16) (bs : List Byte) (s : State)
    (fId fHi fLo : Byte) (channels : s.cfg.n = n) (queue : s.rxq = bs) :
    ((s.scanning w1 w0 cb fId fHi fLo).pollLoop bs).closeFrame.pollFinish =
      s.polledTo (pollFunction n w1 w0 cb bs) (s.anyByte || !bs.isEmpty) := by
  induction w1, w0, cb, bs using pollFunction.induct_unfolding n generalizing s fId fHi fLo with
  | case1 =>
    simp [State.pollLoop, State.closeFrame, State.scanning, State.pollFinish, State.polledTo, queue]
  | case2 _ _ _ _ marker | case3 _ _ _ _ marker | case4 _ _ _ _ marker =>
    subst channels
    rw [pollLoop_scanning_marker _ _ _ _ _ _ marker, pollFunctionWrite_eq]
    simp only [List.isEmpty_cons, Bool.not_false, Bool.or_true]
    rfl
  | case5 w1 w0 cb b marker id high low rest ih =>
    subst channels
    rw [pollLoop_scanning_marker _ _ _ _ _ _ marker, pollLoop_matched_fields]
    rw [pollFunctionWrite_eq] at ih ⊢
    have tail := ih (s.byteRead rest) id high low rfl rfl
    simp only [byteRead_anyByte, Bool.true_or] at tail
    simp only [List.isEmpty_cons, Bool.not_false, Bool.or_true]
    exact tail
  | case6 w1 w0 cb b rest noEnd ih =>
    rw [pollLoop_scanning_skip _ _ _ _ _ _ noEnd]
    have tail := ih (s.byteRead rest) fId fHi fLo channels rfl
    simp only [byteRead_anyByte, Bool.true_or] at tail
    simp only [List.isEmpty_cons, Bool.not_false, Bool.or_true]
    exact tail

theorem countAfterPoll_bytes (c : Config) (bs : List Byte) :
    countAfterPoll c (!bs.isEmpty) = if bs = [] then 0 else BitVec.ofNat 8 c.n := by
  cases bs <;> rfl

/-- A whole poll (R70) is R78's function. -/
theorem runPoll_eq (s : State) :
    s.runPoll = { s.polledByFunction with ph := .scan, fId := 0, fHi := 0, fLo := 0, anyByte := false } := by
  have loop := pollLoop_computes_function s.cfg.n s.w1 s.w0 s.cb s.rxq s.pollStart s.fId s.fHi s.fLo rfl rfl
  rw [pollStart_anyByte, Bool.false_or, State.polledTo, pollStart_cfg, countAfterPoll_bytes] at loop
  exact loop

@[simp] theorem runPoll_cfg (s : State) : s.runPoll.cfg = s.cfg := (runPoll_frame s).cfg
@[simp] theorem runPoll_rxq (s : State) : s.runPoll.rxq = [] := by rw [runPoll_eq]; rfl

theorem runPoll_cb (s : State) : s.runPoll.cb = (pollFunction s.cfg.n s.w1 s.w0 s.cb s.rxq).2.2 := by
  rw [runPoll_eq]
  rfl

theorem runPoll_vcc (s : State) : s.runPoll.vcc = if s.rxq = [] then 0 else BitVec.ofNat 8 s.cfg.n := by
  rw [runPoll_eq]
  rfl

/-- POLL with LOCK = 0 and INIT completed is a whole poll, and no trigger stays held. -/
theorem exec_poll_enabled {s : State} (ready : s.initDone = true) (unlocked : s.lock = false) :
    exec .poll s = .next (State.runPoll { s with held := false }) := by
  rw [exec_poll_ready ready, raisePoll_unlocked unlocked]

/-- Settles O16. -/
theorem pollComputesTheFunction : Obligations.PollComputesTheFunction := by
  intro s ready unlocked
  rw [exec_poll_enabled ready unlocked, runPoll_eq]
  rfl

/-- Settles O18: the function of no byte at all is what it was given. -/
theorem pollCountSaysWhetherAnyByteCame : Obligations.PollCountSaysWhetherAnyByteCame := by
  intro s ready unlocked
  refine ⟨_, exec_poll_enabled ready unlocked, runPoll_rxq _, ?_, ?_⟩
  · intro bytes
    rw [runPoll_vcc]
    exact if_neg bytes
  · intro empty
    rw [runPoll_eq]
    simp [State.polledByFunction, empty, pollFunction]

/-- Settles O22: the function of R78 has neither OVR nor VCC among its arguments. -/
theorem pollIgnoresOverridesAndOldCount : Obligations.PollIgnoresOverridesAndOldCount := by
  intro s o v ready unlocked
  refine ⟨_, exec_poll_enabled ready unlocked, ?_⟩
  rw [exec_poll_enabled (by exact ready) (by exact unlocked), runPoll_eq, runPoll_eq]
  rfl

/-- Settles O23. -/
theorem pollRaisedUnderLockIsHeld : Obligations.PollRaisedUnderLockIsHeld := by
  intro s ready locked
  rw [exec_poll_ready ready, raisePoll_locked locked]

/-! ### The wire units compute it (R53) -/

/-- The capture buffer after one wire unit (R73, R74). -/
def unitCb (n : Nat) (cb : List U16) : Instr → List U16
  | .frame id high low => committed n cb id high low
  | .frameT2 id high => committed n cb id high 0
  | _ => cb

/-- The older window byte after one wire unit (R71, R76). -/
def unitW1 (w0 : Byte) : Instr → Byte
  | .skip _ => w0
  | _ => mark0

theorem pollFunction_decodeFields (n : Nat) (w1 w0 : Byte) (cb : List U16) (fields : List Byte) :
    pollFunction n w1 mark0 cb (mark1 :: fields) =
      pollFunction n (unitW1 w0 (decodeFields fields).1) (windowAfter (decodeFields fields).1)
        (unitCb n cb (decodeFields fields).1) (decodeFields fields).2 := by
  match fields with
  | [] | [_] =>
    simp only [pollFunction, decodeFields, unitW1, windowAfter, unitCb, pollFunctionWrite_eq, committed_zero_payload]
    rfl
  | [_, _] | _ :: _ :: _ :: _ => simp [pollFunction, decodeFields, unitW1, windowAfter, unitCb, pollFunctionWrite_eq]

/-- R78's function takes a stream one wire unit at a time. -/
theorem pollFunction_unit {n : Nat} {w0 : Byte} {bs rest : List Byte} {i : Instr} (w1 : Byte) (cb : List U16)
    (h : decodeWire w0 bs = .ok (i, rest)) :
    pollFunction n w1 w0 cb bs = pollFunction n (unitW1 w0 i) (windowAfter i) (unitCb n cb i) rest := by
  obtain ⟨fields, rfl, rfl, unit⟩ | ⟨fields, rfl, unit⟩ | ⟨b, rfl, rfl, noEnd, -⟩ := decodeWire_cases h
  · rw [pollFunction_decodeFields n w1 mark0, unit]
  · have noEnd : ¬(w0 = mark0 ∧ mark0 = mark1) := fun h => absurd h.2 (by decide)
    rw [pollFunction_skip w1 cb _ noEnd, pollFunction_decodeFields n w0 w0, unit]
  · exact pollFunction_skip w1 cb rest noEnd

/-- A wire unit executed leaves the decoder in phase SCAN with that unit's window and capture buffer, and some value in
each latch. -/
theorem exec_unit {s : State} {bs rest : List Byte} {i : Instr} (h : decodeWire s.w0 bs = .ok (i, rest)) :
    ∃ fId fHi fLo,
      exec i s = .next (s.scanning (unitW1 s.w0 i) (windowAfter i) (unitCb s.cfg.n s.cb i) fId fHi fLo) := by
  have frame : ∀ fields, decodeFields fields = (i, rest) → ∃ fId fHi fLo,
      exec i s = .next (s.scanning (unitW1 s.w0 i) (windowAfter i) (unitCb s.cfg.n s.cb i) fId fHi fLo) := by
    intro fields unit
    match fields with
    | [] =>
      cases unit
      exact ⟨0, 0, 0, by rw [exec_frameT0, exec_frame, committed_zero_payload]; rfl⟩
    | [id] =>
      cases unit
      exact ⟨id, 0, 0, by rw [exec_frameT1, exec_frame, committed_zero_payload]; rfl⟩
    | [id, high] =>
      cases unit
      exact ⟨id, high, 0, by rw [exec_frameT2, exec_frame]; rfl⟩
    | id :: high :: low :: _ =>
      cases unit
      exact ⟨id, high, low, exec_frame s id high low⟩
  obtain ⟨fields, -, -, unit⟩ | ⟨fields, -, unit⟩ | ⟨b, rfl, rfl, noEnd, -⟩ := decodeWire_cases h
  · exact frame fields unit
  · exact frame fields unit
  · refine ⟨s.fId, s.fHi, s.fLo, ?_⟩
    rw [exec_skip, scanByte_noMatch (Bool.eq_false_iff.mpr fun m => noEnd (markerAt_iff.mp m))]
    rfl

theorem execAll_cons {i : Instr} {is : List Instr} {s t : State} (h : exec i s = .next t) :
    execAll (i :: is) s = execAll is t := by
  simp [execAll, h]

/-- The units of a stream, executed one by one from phase SCAN, compute R78's function, and leave some value
in each latch. -/
theorem execAll_wireUnitsUpTo (fuel : Nat) (s : State) (bs : List Byte) (enough : bs.length ≤ fuel)
    (scan : s.ph = .scan) :
    ∃ fId fHi fLo,
      execAll (wireUnitsUpTo fuel s.w0 bs) s =
        .next
          (s.scanning (pollFunction s.cfg.n s.w1 s.w0 s.cb bs).1 (pollFunction s.cfg.n s.w1 s.w0 s.cb bs).2.1
            (pollFunction s.cfg.n s.w1 s.w0 s.cb bs).2.2 fId fHi fLo) := by
  induction fuel generalizing s bs with
  | zero =>
    obtain rfl : bs = [] := List.length_eq_zero_iff.mp (Nat.le_zero.mp enough)
    exact ⟨s.fId, s.fHi, s.fLo, congrArg Host.Outcome.next (scanning_self scan).symm⟩
  | succ fuel ih =>
    cases bs with
    | nil => exact ⟨s.fId, s.fHi, s.fLo, congrArg Host.Outcome.next (scanning_self scan).symm⟩
    | cons b tail =>
      obtain ⟨i, rest, found⟩ := decodeWire_total s.w0 b tail
      obtain ⟨-, -, shorter, -⟩ := decodeWire_ok found
      obtain ⟨fId, fHi, fLo, unit⟩ := exec_unit found
      have fits : rest.length ≤ fuel := by simp only [List.length_cons] at shorter enough; omega
      rw [wireUnitsUpTo_cons fuel found, execAll_cons unit, pollFunction_unit s.w1 s.cb found]
      exact ih (s.scanning (unitW1 s.w0 i) (windowAfter i) (unitCb s.cfg.n s.cb i) fId fHi fLo) rest fits rfl

/-- Settles O17: executing the units and running the loop both compute R78's function, and `pollFinish` writes over the
latches. -/
theorem pollExecutesTheUnitsOfTheStream : Obligations.PollExecutesTheUnitsOfTheStream := by
  intro s ready unlocked
  obtain ⟨fId, fHi, fLo, units⟩ := execAll_wireUnitsUpTo s.rxq.length
    { s with ph := .scan, rxq := [], anyByte := !s.rxq.isEmpty, held := false } s.rxq le_rfl rfl
  refine ⟨_, units, ?_⟩
  rw [exec_poll_enabled ready unlocked, runPoll_eq, State.polledByFunction, ← countAfterPoll_bytes]
  rfl

/-! ### Which entries a poll writes (R79 a, b, e) -/

/-- An entry that a unit does not commit keeps its value. -/
theorem unitCb_getD_unnamed {n k : Nat} {i : Instr} (cb : List U16) (unnamed : unitWrites n k i = false) :
    (unitCb n cb i).getD k 0 = cb.getD k 0 := by
  have other : ∀ id high low, (commits n id high low && decide (id.toNat = k + 1)) = false →
      (committed n cb id high low).getD k 0 = cb.getD k 0 := by
    intro id high low unnamed
    cases c : commits n id high low with
    | false => rw [committed_of_discards c]
    | true =>
      obtain ⟨-, positive, -⟩ := commits_iff.mp c
      simp only [c, Bool.true_and, decide_eq_false_iff_not] at unnamed
      exact committed_getD_other (by omega)
  cases i with
  | frame id high low => exact other id high low unnamed
  | frameT2 id high => exact other id high 0 unnamed
  | _ => rfl

theorem pollFunction_getD_unnamed_upTo {n k : Nat} (fuel : Nat) (w1 w0 : Byte) (cb : List U16) (bs : List Byte)
    (enough : bs.length ≤ fuel) (unnamed : ∀ u ∈ wireUnitsUpTo fuel w0 bs, unitWrites n k u = false) :
    (pollFunction n w1 w0 cb bs).2.2.getD k 0 = cb.getD k 0 := by
  induction fuel generalizing w1 w0 cb bs with
  | zero =>
    obtain rfl : bs = [] := List.length_eq_zero_iff.mp (Nat.le_zero.mp enough)
    rfl
  | succ fuel ih =>
    cases bs with
    | nil => rfl
    | cons b tail =>
      obtain ⟨i, rest, found⟩ := decodeWire_total w0 b tail
      obtain ⟨-, -, shorter, -⟩ := decodeWire_ok found
      have fits : rest.length ≤ fuel := by simp only [List.length_cons] at shorter enough; omega
      rw [wireUnitsUpTo_cons fuel found, List.forall_mem_cons] at unnamed
      rw [pollFunction_unit w1 cb found, ih _ _ _ rest fits unnamed.2, unitCb_getD_unnamed cb unnamed.1]

/-- An entry that no unit of the stream commits keeps its value. -/
theorem pollFunction_getD_unnamed {n k : Nat} {w0 : Byte} {bs : List Byte} (w1 : Byte) (cb : List U16)
    (unnamed : ∀ u ∈ wireUnits w0 bs, unitWrites n k u = false) :
    (pollFunction n w1 w0 cb bs).2.2.getD k 0 = cb.getD k 0 :=
  pollFunction_getD_unnamed_upTo bs.length w1 w0 cb bs le_rfl unnamed

/-- Settles O19. -/
theorem pollChangesOnlyTheEntriesItsFramesName : Obligations.PollChangesOnlyTheEntriesItsFramesName := by
  intro s ready unlocked
  refine ⟨_, exec_poll_enabled ready unlocked, ?_, ?_⟩
  · intro k unnamed
    rw [State.readCb, runPoll_cb]
    exact pollFunction_getD_unnamed s.w1 s.cb unnamed
  · rw [runPoll_eq]
    exact ⟨rfl, rfl, rfl, rfl, rfl, rfl, rfl, rfl, rfl⟩

/-! ### Splitting a stream (R79 c) -/

/-- Where the loop over the first bytes ends in phase SCAN, the function of all the bytes is the function of the rest,
from what the first bytes left. -/
theorem pollFunction_append (n : Nat) (w1 w0 : Byte) (cb : List U16) (xs ys : List Byte) (s : State)
    (fId fHi fLo : Byte) (channels : s.cfg.n = n)
    (between : ((s.scanning w1 w0 cb fId fHi fLo).pollLoop xs).ph = .scan) :
    pollFunction n w1 w0 cb (xs ++ ys) =
      pollFunction n (pollFunction n w1 w0 cb xs).1 (pollFunction n w1 w0 cb xs).2.1
        (pollFunction n w1 w0 cb xs).2.2 ys := by
  induction w1, w0, cb, xs using pollFunction.induct_unfolding n generalizing s fId fHi fLo with
  | case1 => rfl
  | case2 _ _ _ _ marker | case3 _ _ _ _ marker | case4 _ _ _ _ marker =>
    rw [pollLoop_scanning_marker _ _ _ _ _ _ marker] at between
    cases between
  | case5 w1 w0 cb b marker id high low rest ih =>
    rw [pollLoop_scanning_marker _ _ _ _ _ _ marker, pollLoop_matched_fields, byteRead_cfg, channels,
      ← pollFunctionWrite_eq] at between
    rw [← ih (s.byteRead rest) id high low channels between]
    simp [pollFunction, marker]
  | case6 w1 w0 cb b rest noEnd ih =>
    rw [pollLoop_scanning_skip _ _ _ _ _ _ noEnd] at between
    rw [← ih (s.byteRead rest) fId fHi fLo channels between, List.cons_append, pollFunction_skip w1 cb _ noEnd]

theorem pollFunction_append_of_between {s : State} {xs : List Byte} (ys : List Byte) (between : s.endsBetweenUnits xs) :
    pollFunction s.cfg.n s.w1 s.w0 s.cb (xs ++ ys) =
      pollFunction s.cfg.n (pollFunction s.cfg.n s.w1 s.w0 s.cb xs).1 (pollFunction s.cfg.n s.w1 s.w0 s.cb xs).2.1
        (pollFunction s.cfg.n s.w1 s.w0 s.cb xs).2.2 ys :=
  pollFunction_append s.cfg.n s.w1 s.w0 s.cb xs ys s.pollStart s.fId s.fHi s.fLo rfl between

/-- Settles O20: the second poll starts from the window and the capture buffer the first one left. -/
theorem splitPollsAgreeWithOnePoll : Obligations.SplitPollsAgreeWithOnePoll := by
  intro s xs ys ready unlocked between
  have enabled := fun (t : State) (r : t.initDone = true) (u : t.lock = false) => exec_poll_enabled r u
  have whole := pollFunction_append_of_between ys between
  refine ⟨_, _, _, enabled _ ready unlocked, enabled _ ?_ ?_, enabled _ ready unlocked, ?_⟩
  · exact (runPoll_frame _).initDone.trans ready
  · exact (runPoll_frame _).lock.trans unlocked
  · simp only [runPoll_eq, State.polledByFunction]
    rw [whole]
    exact ⟨rfl, rfl, rfl⟩

/-- A whole frame is taken from any window (R51). -/
theorem pollFunction_frame (n : Nat) (w1 w0 : Byte) (cb : List U16) (id high low : Byte) (rest : List Byte) :
    pollFunction n w1 w0 cb (mark0 :: mark1 :: id :: high :: low :: rest) =
      pollFunction n mark0 mark1 (committed n cb id high low) rest :=
  pollFunction_unit w1 cb (decodeWire_marker w0 (id :: high :: low :: rest))

/-- Settles O21: the stream splits before the frame, the frame commits its entry, and no later unit names it. -/
theorem lastFrameOfAPollWins : Obligations.LastFrameOfAPollWins := by
  intro s xs ys id high low ready unlocked len queue between payload positive atMost unnamed
  have c : commits s.cfg.n id high low = true := commits_iff.mpr ⟨payload, positive, atMost⟩
  refine ⟨_, exec_poll_enabled ready unlocked, ?_⟩
  have found : (State.runPoll { s with held := false }).cb =
      (pollFunction s.cfg.n mark0 mark1
        (committed s.cfg.n (pollFunction s.cfg.n s.w1 s.w0 s.cb xs).2.2 id high low) ys).2.2 := by
    calc (State.runPoll { s with held := false }).cb
        = (pollFunction s.cfg.n s.w1 s.w0 s.cb s.rxq).2.2 := runPoll_cb _
      _ = (pollFunction s.cfg.n s.w1 s.w0 s.cb (xs ++ ([mark0, mark1, id, high, low] ++ ys))).2.2 := by
        rw [queue, List.append_assoc]
        rfl
      _ = _ := by
        rw [pollFunction_append_of_between _ between, List.cons_append, List.cons_append]
        exact congrArg (fun r => r.2.2) (pollFunction_frame ..)
  rw [State.readCb, found, pollFunction_getD_unnamed (w0 := mark1) mark0 _ unnamed,
    committed_getD_same ((pollFunction_cbLength ..).trans len) c, joinBytes_toNat]

end Sys2Proof.Machine
end

section
/-! PROOFS. The environment and the producer at the points inside a consumer operation (R36, R38, R125): what they can
do under LOCK, what survives them, and what they do not look at. -/

namespace Sys2Proof.Machine

/-! ### Under LOCK (R38) -/

/-- While LOCK = 1 the environment's acts append their bytes and leave a trigger held. -/
theorem envEvents_locked (es : List EnvEvent) (s : State) (locked : s.lock = true) :
    s.envEvents es =
      { s with
        rxq := s.rxq ++ es.flatMap EnvEvent.arriving
        held := s.held || es.any (fun e => decide (e = .pollReq)) } := by
  induction es generalizing s with
  | nil => simp [State.envEvents]
  | cons e es ih =>
    cases e with
    | rx bs =>
      rw [State.envEvents, State.envEvent, ih _ (by exact locked)]
      simp [State.receive, EnvEvent.arriving]
    | pollReq =>
      rw [State.envEvents, State.envEvent, raisePoll_locked locked, ih _ (by exact locked)]
      simp [EnvEvent.arriving]

/-- Settles O24. -/
theorem nothingOfTheBlockChangesUnderLock : Obligations.NothingOfTheBlockChangesUnderLock :=
  fun s es locked => envEvents_locked es s locked

/-- A preemption point under LOCK: the acts of the agenda's first entry. -/
theorem preempt_locked {s : State} (locked : s.lock = true) :
    s.preempt =
      { s with
        rxq := s.rxq ++ (s.agenda.headD []).flatMap EnvEvent.arriving
        held := s.held || (s.agenda.headD []).any (fun e => decide (e = .pollReq))
        agenda := s.agenda.tail } := by
  unfold State.preempt
  split
  · next none_left =>
    rw [none_left, List.headD_nil, List.flatMap_nil, List.append_nil, List.any_nil, Bool.or_false, List.tail_nil,
      ← none_left]
  · next es rest acts =>
    rw [envEvents_locked es _ (by exact locked)]
    simp [acts]

/-! ### A critical section that loads nothing -/

/-- The state just after CS_EXIT: what arrived under LOCK has joined RXQ, and a trigger raised there is held. -/
def State.pastCs (s : State) : State :=
  { s with
    lock := false
    rxq := s.rxq ++ (s.agenda.headD []).flatMap EnvEvent.arriving
    held := s.held || (s.agenda.headD []).any (fun e => decide (e = .pollReq))
    agenda := s.agenda.tail }

theorem aroundCs_eq (s : State) : s.aroundCs = s.pastCs.preempt := by
  change s.enterCs.preempt.exitCs.preempt = _
  rw [preempt_locked (enterCs_lock s)]
  rfl

theorem aroundCs_quiet {s : State} (quiet : s.agenda = []) : s.aroundCs = { s with lock := false } := by
  have past : s.pastCs = { s with lock := false } := by simp [State.pastCs, quiet]
  rw [aroundCs_eq, past]
  exact preempt_quiet quiet

theorem aroundCs_frame (s : State) :
    s.aroundCs.cfg = s.cfg ∧ s.aroundCs.ovr = s.ovr ∧ s.aroundCs.initDone = s.initDone ∧
      s.aroundCs.script = s.script ∧ s.aroundCs.lock = false := by
  obtain ⟨cfg, ovr, lock, initDone, script, -⟩ :=
    inCriticalSection_frame (s := s) (loads := id) fun t => ⟨rfl, rfl, rfl, rfl, rfl⟩
  exact ⟨cfg, ovr, initDone, script, lock⟩

/-! ### What the environment and the producer cannot break -/

/-- A property that holds on whatever the environment does with its own fields, and over a whole poll. -/
structure Survives (P : State → Prop) : Prop where
  environment : ∀ (s : State) (q : List Byte) (h : Bool) (a : List (List EnvEvent)),
    P s → P { s with rxq := q, held := h, agenda := a }
  poll : ∀ s : State, P s → P s.runPoll

section Survives

variable {P : State → Prop} (keep : Survives P)

include keep

theorem Survives.raisePoll (s : State) (h : P s) : P s.raisePoll := by
  unfold State.raisePoll
  split
  · exact keep.environment s s.rxq true s.agenda h
  · exact keep.poll _ (keep.environment s s.rxq false s.agenda h)

theorem Survives.envEvents (es : List EnvEvent) (s : State) (h : P s) : P (s.envEvents es) := by
  induction es generalizing s with
  | nil => exact h
  | cons e es ih =>
    refine ih _ ?_
    cases e with
    | rx bs => exact keep.environment s (s.rxq ++ bs) s.held s.agenda h
    | pollReq => exact keep.raisePoll s h

theorem Survives.preempt (s : State) (h : P s) : P s.preempt := by
  unfold State.preempt
  split
  · exact h
  · next es rest _ => exact keep.envEvents es _ (keep.environment s s.rxq s.held rest h)

/-- Inside a critical section LOCK holds the producer off, so only the state outside it has to keep the property. -/
theorem Survives.aroundCs (unlock : ∀ s : State, P s → P { s with lock := false }) (s : State) (h : P s) :
    P s.aroundCs := by
  rw [aroundCs_eq]
  exact keep.preempt _ (keep.environment _ _ _ _ (unlock s h))

theorem Survives.wait (s : State) (h : P s) : P s.wait := by
  unfold State.wait
  split
  · exact keep.raisePoll s h
  · exact h

end Survives

/-! ### What the environment and the producer do not look at -/

/-- The snapshot registers and the consumer's result, set. -/
def State.withReader (s : State) (snap : List U16) (snapV : Byte) (ret : Option Result) : State :=
  { s with snap := snap, snapV := snapV, ret := ret }

section WithReader

variable (snap : List U16) (snapV : Byte) (ret : Option Result)

theorem raisePoll_withReader (s : State) :
    (s.withReader snap snapV ret).raisePoll = s.raisePoll.withReader snap snapV ret := by
  cases lock : s.lock with
  | true =>
    rw [raisePoll_locked lock, raisePoll_locked (by exact lock)]
    rfl
  | false =>
    rw [raisePoll_unlocked lock, raisePoll_unlocked (by exact lock), runPoll_eq, runPoll_eq]
    rfl

theorem envEvents_withReader (es : List EnvEvent) (s : State) :
    (s.withReader snap snapV ret).envEvents es = (s.envEvents es).withReader snap snapV ret := by
  induction es generalizing s with
  | nil => rfl
  | cons e es ih =>
    cases e with
    | rx bs => exact ih (s.receive bs)
    | pollReq =>
      change ((s.withReader snap snapV ret).raisePoll).envEvents es = _
      rw [raisePoll_withReader]
      exact ih s.raisePoll

theorem preempt_withReader (s : State) :
    (s.withReader snap snapV ret).preempt = s.preempt.withReader snap snapV ret := by
  cases acts : s.agenda with
  | nil => rw [preempt_quiet acts, preempt_quiet (by exact acts)]
  | cons es rest =>
    have turn : ∀ t : State, t.agenda = es :: rest → t.preempt = State.envEvents { t with agenda := rest } es := by
      intro t h
      simp [State.preempt, h]
    rw [turn s acts, turn _ (by exact acts)]
    exact envEvents_withReader snap snapV ret es { s with agenda := rest }

theorem aroundCs_withReader (s : State) :
    (s.withReader snap snapV ret).aroundCs = s.aroundCs.withReader snap snapV ret := by
  rw [aroundCs_eq, aroundCs_eq]
  exact preempt_withReader snap snapV ret s.pastCs

end WithReader

end Sys2Proof.Machine
end

section
/-! PROOFS. The consumer's reads (41_channel_reader.md): READ and READN are one load at the critical section, with what
the environment and the producer do around it. -/

namespace Sys2Proof.Machine

theorem exec_read (c : Byte) (s : State) : exec (.read c) s = execRead c s := rfl

theorem exec_readn (m : Byte) (s : State) : exec (.readn m) s = execReadn m s := rfl

/-- A critical section around loads that set the snapshot registers is one that loads nothing, with the registers set to
what the loads find under LOCK. -/
theorem inCriticalSection_loads {s : State} {loads : State → State} {snap : List U16} {snapV : Byte}
    (h : loads s.enterCs.preempt = s.enterCs.preempt.withReader snap snapV s.ret) :
    s.inCriticalSection loads = s.aroundCs.withReader snap snapV s.ret := by
  rw [State.inCriticalSection, h]
  exact preempt_withReader snap snapV s.ret s.enterCs.preempt.exitCs

/-- Under LOCK the capture buffer and VCC stand still (R38). -/
theorem enterCs_preempt_capture (s : State) :
    s.enterCs.preempt.cb = s.cb ∧ s.enterCs.preempt.vcc = s.vcc ∧ s.enterCs.preempt.snapV = s.snapV := by
  rw [preempt_locked (enterCs_lock s)]
  exact ⟨rfl, rfl, rfl⟩

theorem loadSnap_underLock (s : State) (first count : Nat) :
    s.enterCs.preempt.loadSnap first count =
      s.enterCs.preempt.withReader ((List.range count).map fun i => s.readCb (first + i)) s.snapV s.ret := by
  obtain ⟨cb, -, snapV⟩ := enterCs_preempt_capture s
  have ret : s.enterCs.preempt.ret = s.ret := preempt_ret _
  simp only [State.loadSnap, State.withReader, State.readCb, cb, snapV, ret]

/-- READ of a channel that does not exist. -/
theorem exec_read_missing {s : State} {c : Byte} (ready : s.initDone = true) (missing : s.cfg.n ≤ c.toNat) :
    exec (.read c) s = .next (s.handBack (.pulse 0)) := by
  rw [exec_read, execRead, whenReady_ready ready, if_pos missing]

/-- READ of an existing channel: OUT of the state before it, and what happens around its critical section. -/
theorem exec_read_existing {s : State} {c : Byte} (ready : s.initDone = true) (existing : c.toNat < s.cfg.n) :
    exec (.read c) s = .next (s.aroundCs.withReader [] 0 (some (.pulse (s.out c.toNat)))) := by
  obtain ⟨cfg, ovr, -⟩ := aroundCs_frame s
  rw [exec_read, execRead, whenReady_ready ready, if_neg (by omega),
    inCriticalSection_loads (loadSnap_underLock s c.toNat 1)]
  simp [State.handBackPulse, State.handBack, State.dropSnap, State.withReader, State.readOvr, State.out, cfg, ovr]

/-- READN: OUT of each channel of the state before it, its VCC, and what happens around the critical section. -/
theorem exec_readn_ready {s : State} {m : Byte} (ready : s.initDone = true) :
    exec (.readn m) s =
      .next (s.aroundCs.withReader [] 0
        (some (.batch ((List.range (prefixLength s.cfg m)).map s.out) s.vcc))) := by
  obtain ⟨cfg, ovr, -⟩ := aroundCs_frame s
  obtain ⟨-, vcc, -⟩ := enterCs_preempt_capture s
  have loads : (s.enterCs.preempt.loadSnap 0 (prefixLength s.cfg m)).loadSnapV =
      s.enterCs.preempt.withReader ((List.range (prefixLength s.cfg m)).map fun i => s.readCb (0 + i)) s.vcc s.ret := by
    rw [loadSnap_underLock, State.loadSnapV]
    simp [State.withReader, vcc]
  have outs : (List.range (prefixLength s.cfg m)).map (fun i => delivered s.cfg (s.readOvr i)
      (((List.range (prefixLength s.cfg m)).map fun i => s.readCb (0 + i)).getD i 0)) =
      (List.range (prefixLength s.cfg m)).map s.out := by
    refine List.map_congr_left fun i inRange => ?_
    simp [State.out, List.getD_eq_getElem?_getD, List.mem_range.mp inRange]
  rw [exec_readn, execReadn, whenReady_ready ready, inCriticalSection_loads loads, ← outs]
  simp only [State.handBackBatch, State.handBack, State.dropSnap, State.withReader, State.readOvr, cfg, ovr]

/-- Settles O26: below the lower bound, above the upper one, and between them. -/
theorem pulseWidthIsTheClampedHalf : Obligations.PulseWidthIsTheClampedHalf := by
  intro c v wf
  have ordered : c.minPw.toNat ≤ c.maxPw.toNat := by
    simp only [Config.wf, Bool.and_eq_true, decide_eq_true_eq] at wf
    exact wf.1.2
  have half : (v >>> 1).toNat = v.toNat / 2 := by simp [BitVec.toNat_ushiftRight, Nat.shiftRight_eq_div_pow]
  have value : (pulseWidth c v).toNat = max c.minPw.toNat (min c.maxPw.toNat (v.toNat / 2)) := by
    simp only [pulseWidth, clamp]
    split_ifs with below above
    · rw [BitVec.lt_def, half] at below
      omega
    · rw [BitVec.lt_def, half] at below above
      omega
    · rw [BitVec.lt_def, half] at below above
      omega
  refine ⟨value, ?_, ?_⟩
  · rw [BitVec.le_def, value]
    omega
  · rw [BitVec.le_def, value]
    omega

/-- Settles O27. -/
theorem readDeliversOverrideOrPulseWidth : Obligations.ReadDeliversOverrideOrPulseWidth := by
  intro s c ready
  refine ⟨fun missing => exec_read_missing ready missing, fun existing => ?_⟩
  refine ⟨_, exec_read_existing ready existing, rfl, fun quiet => ?_⟩
  rw [aroundCs_quiet quiet]
  rfl

/-- Settles O28. -/
theorem readnDeliversThePrefixOfOneInstant : Obligations.ReadnDeliversThePrefixOfOneInstant := by
  intro s m ready
  refine ⟨_, exec_readn_ready ready, rfl, fun quiet => ?_⟩
  rw [aroundCs_quiet quiet]
  rfl

/-- Setting only the result, where the snapshot registers are at rest. -/
theorem withReader_atRest {s : State} (r : Option Result) (snap : s.snap = []) (snapV : s.snapV = 0) :
    s.withReader [] 0 r = { s with ret := r } := by
  rw [State.withReader, ← snap, ← snapV]

/-- Settles O29: the environment and the producer do not look at the result, so the read may stand before them. -/
theorem readsActAsOneTransition : Obligations.ReadsActAsOneTransition := by
  intro s ready unlocked snap snapV
  constructor
  · intro c existing
    rw [exec_read_existing ready existing, ← aroundCs_withReader, withReader_atRest _ snap snapV]
    rfl
  · intro m
    rw [exec_readn_ready ready, ← aroundCs_withReader, withReader_atRest _ snap snapV]
    rfl

/-- Settles O30: both lengths are cut to N, which R6 makes fit a byte. -/
theorem readnOfMoreThanNIsReadnOfN : Obligations.ReadnOfMoreThanNIsReadnOfN := by
  intro s m wf longer
  have fits : s.cfg.n ≤ 255 := by
    simp only [Config.wf, Bool.and_eq_true, decide_eq_true_eq] at wf
    exact wf.1.1.2
  have same : prefixLength s.cfg m = prefixLength s.cfg (BitVec.ofNat 8 s.cfg.n) := by
    simp only [prefixLength, BitVec.toNat_ofNat]
    omega
  rw [exec_readn, exec_readn, execReadn, execReadn, same]

/-- With nothing happening beside it, READ of an existing channel is its one transition. -/
theorem exec_read_quiet {s : State} {c : Byte} (ready : s.initDone = true) (unlocked : s.lock = false)
    (quiet : s.agenda = []) (snap : s.snap = []) (snapV : s.snapV = 0) (existing : c.toNat < s.cfg.n) :
    exec (.read c) s = .next (s.readNow c.toNat) := by
  rw [(readsActAsOneTransition s ready unlocked snap snapV).1 c existing, aroundCs_quiet (by exact quiet), ← unlocked]
  rfl

theorem exec_readn_quiet {s : State} {m : Byte} (ready : s.initDone = true) (unlocked : s.lock = false)
    (quiet : s.agenda = []) (snap : s.snap = []) (snapV : s.snapV = 0) :
    exec (.readn m) s = .next (s.readnNow (min m.toNat s.cfg.n)) := by
  rw [(readsActAsOneTransition s ready unlocked snap snapV).2 m, aroundCs_quiet (by exact quiet), ← unlocked]
  rfl

/-- Settles O31: each of the three writes `ret` alone, and reads nothing of it. -/
theorem readsAreRepeatable : Obligations.ReadsAreRepeatable := by
  intro s i isRead ready unlocked quiet snap snapV
  obtain rfl | ⟨c, rfl⟩ | ⟨m, rfl⟩ := isRead
  · exact ⟨_, execNumch_ready ready, rfl, execNumch_ready (by exact ready)⟩
  · by_cases existing : c.toNat < s.cfg.n
    · exact ⟨_, exec_read_quiet ready unlocked quiet snap snapV existing, rfl,
        exec_read_quiet (by exact ready) unlocked quiet snap snapV existing⟩
    · have missing : s.cfg.n ≤ c.toNat := by omega
      exact ⟨_, exec_read_missing ready missing, rfl, exec_read_missing (by exact ready) missing⟩
  · exact ⟨_, exec_readn_quiet ready unlocked quiet snap snapV, rfl,
      exec_readn_quiet (by exact ready) unlocked quiet snap snapV⟩

/-- Settles O32: past the critical section the trigger is held and the agenda is at its end, so the next step is the
idle step of O8. -/
theorem triggerInsideAReadRunsAfterIt : Obligations.TriggerInsideAReadRunsAfterIt := by
  intro s c bs ready scriptEnd acts existing
  have around : s.aroundCs = { s with lock := false, rxq := s.rxq ++ bs, held := true, agenda := [] } := by
    have past : s.pastCs = { s with lock := false, rxq := s.rxq ++ bs, held := true, agenda := [] } := by
      simp [State.pastCs, acts, EnvEvent.arriving]
    rw [aroundCs_eq, past]
    exact preempt_quiet rfl
  refine ⟨_, exec_read_existing ready existing, ?_⟩
  rw [around]
  exact ⟨rfl, rfl, rfl, rfl, rfl, (idleStepHonoursAHeldTrigger _ (by exact scriptEnd)).1 ⟨rfl, rfl, ready⟩⟩

end Sys2Proof.Machine
end

section
/-! PROOFS. The override operations of the consumer port (42_override.md): SETOVR by the sign of its value, and SETOVRS
as SETOVR of each element, whatever happens between two of them. -/

namespace Sys2Proof.Machine

/-! ### One override (R100) -/

/-- R61: a signed value is negative, 0 or positive. -/
theorem overrideValue_cases (v : S16) : v.toInt < 0 ∨ v = 0 ∨ 0 < v.toInt := by
  obtain negative | zero | positive := lt_trichotomy v.toInt 0
  · exact .inl negative
  · exact .inr (.inl (BitVec.eq_of_toInt_eq zero))
  · exact .inr (.inr positive)

/-- The override table after one SETOVR. -/
def storedOvr (n : Nat) (ovr : List S16) (c : Nat) (v : S16) : List S16 :=
  if v.toInt < 0 ∨ n ≤ c then ovr else ovr.set c v

theorem storedOvr_rejected {n c : Nat} {v : S16} (ovr : List S16) (h : v.toInt < 0 ∨ n ≤ c) :
    storedOvr n ovr c v = ovr :=
  if_pos h

theorem storedOvr_stored {n c : Nat} {v : S16} (ovr : List S16) (value : 0 ≤ v.toInt) (existing : c < n) :
    storedOvr n ovr c v = ovr.set c v :=
  if_neg (by omega)

@[simp] theorem storedOvr_length (n : Nat) (ovr : List S16) (c : Nat) (v : S16) :
    (storedOvr n ovr c v).length = ovr.length := by
  unfold storedOvr
  split <;> simp

theorem storedOvr_getD_same {n : Nat} {ovr : List S16} {c : Nat} (v : S16) (inRange : c < n)
    (len : ovr.length = n) : (storedOvr n ovr c v).getD c 0 = if v.toInt < 0 then ovr.getD c 0 else v := by
  by_cases negative : v.toInt < 0
  · rw [storedOvr_rejected _ (.inl negative), if_pos negative]
  · rw [storedOvr_stored _ (by omega) inRange, if_neg negative, List.getD_eq_getElem?_getD,
      List.getElem?_set_self (by omega), Option.getD_some]

theorem storedOvr_getD_other {n : Nat} {ovr : List S16} {c k : Nat} (v : S16) (other : c ≠ k) :
    (storedOvr n ovr c v).getD k 0 = ovr.getD k 0 := by
  unfold storedOvr
  split
  · rfl
  · rw [List.getD_eq_getElem?_getD, List.getElem?_set_ne other, List.getD_eq_getElem?_getD]

/-- SETOVR stores a value that is not negative for a channel that exists, and a positive one forces VCC to the
sentinel. -/
theorem override_eq (s : State) (c : Nat) (v : S16) :
    s.override c v =
      { s with
        ovr := storedOvr s.cfg.n s.ovr c v
        vcc := if 0 < v.toInt ∧ c < s.cfg.n then s.cfg.sentinel else s.vcc } := by
  by_cases missing : s.cfg.n ≤ c
  · rw [(override_outOfRange missing).1, storedOvr_rejected _ (.inr missing), if_neg (by omega)]
  have existing : c < s.cfg.n := by omega
  obtain negative | rfl | positive := overrideValue_cases v
  · rw [(override_negative negative).1, storedOvr_rejected _ (.inl negative), if_neg (by omega)]
  · rw [(override_clear existing).1, storedOvr_stored _ (by simp) existing, if_neg (by simp)]
    rfl
  · rw [(override_apply existing positive).1, storedOvr_stored _ (by omega) existing, if_pos ⟨positive, existing⟩]
    rfl

theorem override_ovr (s : State) (c : Nat) (v : S16) : (s.override c v).ovr = storedOvr s.cfg.n s.ovr c v := by
  rw [override_eq]

theorem override_vcc (s : State) (c : Nat) (v : S16) :
    (s.override c v).vcc = if 0 < v.toInt ∧ c < s.cfg.n then s.cfg.sentinel else s.vcc := by
  rw [override_eq]

/-- SETOVR's result: the value is positive and the channel exists. -/
theorem overrideApplied_eq (s : State) (c : Nat) (v : S16) :
    s.overrideApplied c v = (decide (0 < v.toInt) && decide (c < s.cfg.n)) := by
  by_cases missing : s.cfg.n ≤ c
  · rw [(override_outOfRange missing).2, decide_eq_false (p := c < s.cfg.n) (by omega), Bool.and_false]
  obtain negative | rfl | positive := overrideValue_cases v
  · rw [(override_negative negative).2, decide_eq_false (p := 0 < v.toInt) (by omega), Bool.false_and]
  · rw [(override_clear (by omega)).2]
    rfl
  · rw [(override_apply (by omega) positive).2, decide_eq_true positive, decide_eq_true (p := c < s.cfg.n) (by omega),
      Bool.and_true]

theorem exec_setovr_ready {s : State} (c : Byte) (v : S16) (ready : s.initDone = true) :
    exec (.setovr c v) s =
      .next ((s.override c.toNat v).handBack (.applied (s.overrideApplied c.toNat v))) :=
  whenReady_ready ready

/-- Settles O33: the rejected cases, then 0, then the positive value. -/
theorem setovrStoresAndForcesTheCount : Obligations.SetovrStoresAndForcesTheCount := by
  intro s c v ready
  rw [exec_setovr_ready c v ready]
  by_cases rejected : v.toInt < 0 ∨ s.cfg.n ≤ c.toNat
  · rw [if_pos rejected]
    obtain negative | missing := rejected
    · rw [(override_negative negative).1, (override_negative negative).2]
      rfl
    · rw [(override_outOfRange missing).1, (override_outOfRange missing).2]
      rfl
  · rw [if_neg rejected]
    obtain ⟨notNegative, inRange⟩ := not_or.mp rejected
    obtain negative | rfl | positive := overrideValue_cases v
    · exact absurd negative notNegative
    · rw [if_pos rfl, (override_clear (by omega)).1, (override_clear (by omega)).2]
      rfl
    · rw [if_neg (ne_zero_of_positive positive), (override_apply (by omega) positive).1,
        (override_apply (by omega) positive).2]
      rfl

/-! ### SETOVRS (R101) -/

/-- The override table after SETOVR of each element, from channel `i` on. -/
def storedAll (n : Nat) : (ovr : List S16) → (i : Nat) → List S16 → List S16
  | ovr, _, [] => ovr
  | ovr, i, v :: vs => storedAll n (storedOvr n ovr i v) (i + 1) vs

/-- The table and the result that the element steps leave, whatever happens between them (R150). -/
theorem overrideEach_stored (vs : List S16) (s : State) (i : Nat) (r : Bool) :
    (s.overrideEach i vs r).1.ovr = storedAll s.cfg.n s.ovr i vs ∧
      (s.overrideEach i vs r).2 = (r || someApplied s.cfg.n i vs) := by
  induction vs generalizing s i r with
  | nil => exact ⟨rfl, (Bool.or_false r).symm⟩
  | cons v vs ih =>
    cases vs with
    | nil =>
      refine ⟨override_ovr s i v, ?_⟩
      rw [State.overrideEach, overrideApplied_eq, someApplied, someApplied, Bool.or_false]
    | cons v' vs =>
      obtain ⟨table, result⟩ := ih (s.override i v).preempt (i + 1) (r || s.overrideApplied i v)
      rw [overrideEach_cons, table, result, preempt_cfg, preempt_ovr, override_cfg, override_ovr, overrideApplied_eq,
        Bool.or_assoc]
      exact ⟨rfl, rfl⟩

/-- With an empty agenda the element steps are SETOVR of each element. -/
theorem overrideEach_quiet (vs : List S16) (s : State) (i : Nat) (r : Bool) (quiet : s.agenda = []) :
    (s.overrideEach i vs r).1 = s.overrideAll i vs := by
  induction vs generalizing s i r with
  | nil => rfl
  | cons v vs ih =>
    cases vs with
    | nil => rfl
    | cons v' vs =>
      have still : (s.override i v).agenda = [] := (override_agenda s i v).trans quiet
      rw [overrideEach_cons, preempt_quiet still, ih _ _ _ still]
      rfl

theorem exec_setovrs (vs : List S16) (len : Byte) (s : State) : exec (.setovrs vs len) s = execSetovrs vs len s := rfl

theorem exec_setovrs_ready {s : State} (vs : List S16) (len : Byte) (ready : s.initDone = true) :
    exec (.setovrs vs len) s =
      .next ((s.overrideEach 0 (vs.take len.toNat) false).1.handBack
        (.applied (someApplied s.cfg.n 0 (vs.take len.toNat)))) := by
  rw [exec_setovrs, execSetovrs, whenReady_ready ready, (overrideEach_stored _ s 0 false).2, Bool.false_or]

theorem override_withRet (s : State) (c : Nat) (v : S16) (r : Option Result) :
    State.override { s with ret := r } c v = { s.override c v with ret := r } := by
  rw [override_eq, override_eq]

theorem overrideAll_withRet (vs : List S16) (s : State) (i : Nat) (r : Option Result) :
    State.overrideAll { s with ret := r } i vs = { s.overrideAll i vs with ret := r } := by
  induction vs generalizing s i with
  | nil => rfl
  | cons v vs ih => rw [State.overrideAll, override_withRet, ih, State.overrideAll]

/-- A run of SETOVRs on successive channels is `overrideAll`, but for the result of the last. -/
theorem execAll_setovr_zipIdx (vs : List S16) (s : State) (i : Nat) (ready : s.initDone = true)
    (fits : i + vs.length ≤ 256) :
    ∃ r, execAll ((vs.zipIdx i).map fun p => .setovr (BitVec.ofNat 8 p.2) p.1) s =
      .next { s.overrideAll i vs with ret := r } := by
  induction vs generalizing s i with
  | nil => exact ⟨s.ret, rfl⟩
  | cons v vs ih =>
    simp only [List.length_cons] at fits
    have channel : (BitVec.ofNat 8 i).toNat = i := by
      rw [BitVec.toNat_ofNat]
      omega
    have first := exec_setovr_ready (BitVec.ofNat 8 i) v ready
    rw [channel] at first
    obtain ⟨r, rest⟩ := ih ((s.override i v).handBack (.applied (s.overrideApplied i v))) (i + 1)
      ((override_initDone s i v).trans ready) (by omega)
    refine ⟨r, ?_⟩
    rw [List.zipIdx_cons, List.map_cons, execAll_cons first, rest]
    rw [State.handBack, overrideAll_withRet, State.overrideAll]

/-- Settles O34: both runs are `overrideAll`. -/
theorem setovrsIsSetovrOfEachElement : Obligations.SetovrsIsSetovrOfEachElement := by
  intro s vs len ready quiet count
  have fits : 0 + vs.length ≤ 256 := by have := len.isLt; omega
  obtain ⟨r, run⟩ := execAll_setovr_zipIdx vs s 0 ready fits
  refine ⟨_, run, ?_⟩
  rw [exec_setovrs_ready vs len ready, ← count, List.take_length, overrideEach_quiet vs s 0 false quiet]
  rfl

/-! ### VCC beside SETOVRS (R150) -/

/-- R19 a with the sentinel: the values VCC can have. -/
def State.CountKnown (s : State) : Prop :=
  s.vcc = 0 ∨ s.vcc = BitVec.ofNat 8 s.cfg.n ∨ s.vcc = s.cfg.sentinel

theorem runPoll_count (s : State) : s.runPoll.vcc = 0 ∨ s.runPoll.vcc = BitVec.ofNat 8 s.cfg.n := by
  rw [runPoll_vcc]
  split
  · exact .inl rfl
  · exact .inr rfl

theorem countKnown_survives : Survives State.CountKnown where
  environment _ _ _ _ h := h
  poll s _ := by
    obtain zero | full := runPoll_count s
    · exact .inl zero
    · exact .inr (.inl (by rw [runPoll_cfg, full]))

theorem override_countKnown {s : State} (c : Nat) (v : S16) (h : s.CountKnown) : (s.override c v).CountKnown := by
  rw [override_eq]
  by_cases applied : 0 < v.toInt ∧ c < s.cfg.n
  · exact .inr (.inr (if_pos applied))
  · rw [if_neg applied]
    exact h

/-- Once an element has been applied, VCC is one of its known values. -/
theorem overrideEach_countKnown (vs : List S16) (s : State) (i : Nat) (r : Bool) (start : r = true → s.CountKnown)
    (applied : (s.overrideEach i vs r).2 = true) : (s.overrideEach i vs r).1.CountKnown := by
  have one : ∀ (s : State) (i : Nat) (v : S16) (r : Bool), (r = true → s.CountKnown) →
      (r || s.overrideApplied i v) = true → (s.override i v).CountKnown := by
    intro s i v r start applied
    cases r with
    | true => exact override_countKnown i v (start rfl)
    | false =>
      rw [Bool.false_or, overrideApplied_eq, Bool.and_eq_true, decide_eq_true_eq, decide_eq_true_eq] at applied
      rw [override_eq, if_pos applied]
      exact .inr (.inr rfl)
  induction vs generalizing s i r with
  | nil => exact start applied
  | cons v vs ih =>
    cases vs with
    | nil => exact one s i v r start applied
    | cons v' vs =>
      rw [overrideEach_cons] at applied ⊢
      exact ih _ _ _ (fun h => countKnown_survives.preempt _ (one s i v r start h)) applied

/-- Settles O35: the table and the result are functions of the table before and the values alone. -/
theorem setovrsOverridesDoNotDependOnPolls : Obligations.SetovrsOverridesDoNotDependOnPolls := by
  intro s vs len a ready
  refine ⟨_, _, exec_setovrs_ready vs len (by exact ready), exec_setovrs_ready vs len (by exact ready), ?_, rfl, ?_⟩
  · rw [handBack_ovr, handBack_ovr, (overrideEach_stored ..).1, (overrideEach_stored ..).1]
  · intro applied
    rw [handBack_ret, Option.some_inj, Result.applied.injEq] at applied
    obtain zero | full | sentinel := overrideEach_countKnown (vs.take len.toNat) { s with agenda := a } 0 false nofun
      ((overrideEach_stored ..).2.trans applied)
    · exact .inr (.inr zero)
    · rw [overrideEach_cfg] at full
      exact .inr (.inl full)
    · rw [overrideEach_cfg] at sentinel
      exact .inl sentinel

/-- SETOVRS of a positive value and a 0: VCC is what the point between the two elements leaves of the sentinel. -/
theorem exec_setovrs_apply_clear {s : State} {v : S16} (ready : s.initDone = true) (channel : 1 ≤ s.cfg.n)
    (positive : 0 < v.toInt) :
    ∃ t, exec (.setovrs [v, 0] 2) s = .next t ∧ t.ret = some (.applied true) ∧
      t.vcc = (State.preempt { s.writeOvr 0 v with vcc := s.cfg.sentinel }).vcc := by
  refine ⟨_, exec_setovrs_ready [v, 0] 2 ready, ?_, ?_⟩
  · simp [someApplied, positive, show 0 < s.cfg.n by omega]
  · change ((s.override 0 v).preempt.override 1 0).vcc = _
    rw [(override_apply (by omega) positive).1, override_vcc, if_neg (by simp)]

/-- Settles O36: what stands between the two elements is a whole poll, or nothing. -/
theorem pollBetweenElementsReplacesTheSentinel : Obligations.PollBetweenElementsReplacesTheSentinel := by
  intro s v ready unlocked channel positive
  constructor
  · obtain ⟨t, run, result, count⟩ :=
      exec_setovrs_apply_clear (s := { s with agenda := [[.pollReq]] }) (by exact ready) channel positive
    refine ⟨t, run, result, count.trans ?_⟩
    change (State.raisePoll { State.writeOvr { s with agenda := [] } 0 v with vcc := s.cfg.sentinel }).vcc = _
    rw [raisePoll_unlocked (by exact unlocked), runPoll_vcc]
    rfl
  · obtain ⟨t, run, result, count⟩ :=
      exec_setovrs_apply_clear (s := { s with agenda := [] }) (by exact ready) channel positive
    exact ⟨t, run, result, count⟩

/-! ### What an override is worth to a reader -/

/-- Settles O39: in the cleared table no override stands before the pulse width. -/
theorem readAfterClrovrIsThePulseWidth : Obligations.ReadAfterClrovrIsThePulseWidth := by
  intro s c ready existing
  refine ⟨_, _, execClrovr_ready ready, exec_read_existing (by exact ready) existing, ?_⟩
  have normal : (s.clearOvr.handBack .done).readOvr c.toNat = 0 := clearOvr_readOvr s c.toNat
  rw [State.withReader, State.out, normal, delivered, if_neg (by simp)]
  rfl

/-- Settles O40: the empty poll writes 0 to VCC and nothing to OVR, and READ delivers the stored value as it is. -/
theorem emptyPollErasesTheSentinelButNotTheOverride : Obligations.EmptyPollErasesTheSentinelButNotTheOverride := by
  intro s c v ready unlocked empty len existing positive
  have store := exec_setovr_ready c v ready
  rw [(override_apply existing positive).1, (override_apply existing positive).2] at store
  refine ⟨_, _, _, store, rfl, exec_poll_enabled (by exact ready) (by exact unlocked), ?_,
    exec_read_existing ?_ ?_, ?_⟩
  · rw [runPoll_vcc]
    exact if_pos empty
  · exact (runPoll_frame _).initDone.trans ready
  · rw [runPoll_cfg]
    exact existing
  · have stored : (s.ovr.set c.toNat v).getD c.toNat 0 = v := by
      simp [List.getD_eq_getElem?_getD, show c.toNat < s.ovr.length by omega]
    rw [runPoll_eq]
    change some (Result.pulse (delivered s.cfg ((s.ovr.set c.toNat v).getD c.toNat 0) _)) = _
    rw [stored, delivered, if_pos (ne_zero_of_positive positive)]

end Sys2Proof.Machine
end

section
/-! PROOFS. The critical-section steps, INIT and the reset event (43_system.md, 70_reset_and_hazards.md). -/

namespace Sys2Proof.Machine

theorem exec_csEnter (s : State) : exec .csEnter s = .next s.enterCs := rfl

theorem exec_csExit (s : State) : exec .csExit s = .next s.exitCs := rfl

theorem exec_init (s : State) : exec .init s = execInit s := rfl

theorem exec_reset (s : State) : exec .reset s = execReset s := rfl

theorem exec_init_early {s : State} (early : s.initDone = false) :
    exec .init s = .next { s.clearOvr with initDone := true } := by
  simp [exec_init, execInit, early]

theorem exec_init_late {s : State} (ready : s.initDone = true) : exec .init s = .refused .secondInit := by
  simp [exec_init, execInit, ready]

theorem exec_reset_early {s : State} (early : s.initDone = false) : exec .reset s = .next s.systemStart := by
  simp [exec_reset, execReset, early]

theorem exec_reset_late {s : State} (ready : s.initDone = true) : exec .reset s = .refused .resetAfterLaunch := by
  simp [exec_reset, execReset, ready]

/-- Settles O41. -/
theorem criticalSectionStepsSetAndClearLock : Obligations.CriticalSectionStepsSetAndClearLock :=
  fun s => ⟨exec_csEnter s, exec_csExit s⟩

/-- Settles O42. -/
theorem initZeroesOverridesOnce : Obligations.InitZeroesOverridesOnce :=
  fun _ => ⟨exec_init_early, exec_init_late⟩

/-- Settles O43. -/
theorem resetZeroesThePersistentState : Obligations.ResetZeroesThePersistentState := by
  refine ⟨fun s early => ⟨_, exec_reset_early early, ?_⟩, rfl, rfl, rfl, rfl, rfl, rfl⟩
  exact ⟨systemStart_cb s, systemStart_vcc s, systemStart_ovr s, systemStart_w1 s, systemStart_w0 s, systemStart_lock s,
    systemStart_cfg s⟩

/-- Settles O44. -/
theorem resetAfterLaunchIsRefused : Obligations.ResetAfterLaunchIsRefused := fun _ ready => exec_reset_late ready

theorem systemStart_atRest (s : State) : s.systemStart.AtRest := ⟨rfl, rfl, rfl, rfl, rfl, rfl, rfl⟩

/-- Settles O45. -/
theorem resetLeavesTheEnvironmentAlone : Obligations.ResetLeavesTheEnvironmentAlone := fun s early =>
  ⟨_, exec_reset_early early, systemStart_atRest s, systemStart_initDone s, systemStart_ret s, systemStart_rxq s,
    systemStart_held s, systemStart_agenda s, systemStart_script s⟩

/-- The pulse width of an entry never captured is the lower bound. -/
theorem pulseWidth_zero (c : Config) (wf : c.wf = true) : pulseWidth c 0 = c.minPw := by
  obtain ⟨value, -, -⟩ := pulseWidthIsTheClampedHalf c 0 wf
  apply BitVec.eq_of_toNat_eq
  rw [value]
  simp

/-- The state R141 describes: reset, then INIT, with the given bytes in RXQ. -/
def State.launch (c : Config) (q : List Byte) : State :=
  { State.resetFor c with rxq := q, initDone := true }

theorem exec_init_resetFor (c : Config) (q : List Byte) :
    exec .init { State.resetFor c with rxq := q } = .next (State.launch c q) :=
  exec_init_early rfl

theorem launch_readOvr (c : Config) (q : List Byte) (ch : Nat) : (State.launch c q).readOvr ch = 0 := by
  change (List.replicate c.n (0 : S16)).getD ch 0 = 0
  rw [List.getD_eq_getElem?_getD]
  exact List.getElem?_getD_replicate_default_eq 0 c.n ch

theorem launch_readCb (c : Config) (q : List Byte) (ch : Nat) : (State.launch c q).readCb ch = 0 :=
  launch_readOvr c q ch

theorem launch_out (c : Config) (q : List Byte) (ch : Nat) (wf : c.wf = true) :
    (State.launch c q).out ch = c.minPw := by
  rw [State.out, launch_readOvr, launch_readCb, delivered, if_neg (by simp)]
  exact pulseWidth_zero c wf

/-- Settles O46: both tables are zero at launch, and half of 0 clamps to the lower bound. -/
theorem launchStateReadsAsEmpty : Obligations.LaunchStateReadsAsEmpty := by
  intro c q wf
  refine ⟨_, exec_init_resetFor c q, rfl, rfl, rfl, rfl, rfl, rfl, rfl, rfl, ?_, ⟨_, execNumch_ready rfl, rfl⟩, ?_⟩
  · exact fun ch => overridden_eq_false_iff.mpr (launch_readOvr c q ch)
  · intro ch
    by_cases existing : ch.toNat < c.n
    · refine ⟨_, exec_read_existing rfl existing, ?_⟩
      rw [if_pos existing, ← launch_out c q ch.toNat wf]
      rfl
    · exact ⟨_, exec_read_missing rfl (by exact Nat.le_of_not_lt existing), by rw [if_neg existing]; rfl⟩

/-- Settles O47: each of the seven is a `whenReady`. -/
theorem operationsBeforeInitAreRefused : Obligations.OperationsBeforeInitAreRefused := by
  intro s i needs early
  cases i with
  | poll | numch | read | readn | setovr | setovrs | clrovr => exact whenReady_early early
  | frame | frameT2 | frameT1 | frameT0 | skip | csEnter | csExit | init | reset => cases needs

end Sys2Proof.Machine
end

section
/-! PROOFS. All that an instruction can do where it answers a next state, said once, and what each clause keeps: the
parameters, the overrides, the captured entries, the count. -/

namespace Sys2Proof.Machine

/-- `Answers s i t`: instruction `i` takes `s` to `t`, one constructor per instruction of the block, and one for the
five instructions of the wire port together. -/
inductive Answers (s : State) : Instr → State → Prop where
  | wire {i : Instr} (port : i.port = .wire) (w1 w0 : Byte) (cb : List U16) (ph : Phase) (fId fHi fLo : Byte)
      (captured : cb = s.cb ∨ ∃ id high low, cb = committed s.cfg.n s.cb id high low) :
      Answers s i { s with w1 := w1, w0 := w0, cb := cb, ph := ph, fId := fId, fHi := fHi, fLo := fLo }
  | poll (ready : s.initDone = true) : Answers s .poll s.raisePoll
  | numch (ready : s.initDone = true) : Answers s .numch (s.handBack (.count s.vcc))
  | readMissing {c : Byte} (ready : s.initDone = true) (missing : s.cfg.n ≤ c.toNat) :
      Answers s (.read c) (s.handBack (.pulse 0))
  | read {c : Byte} (ready : s.initDone = true) (existing : c.toNat < s.cfg.n) :
      Answers s (.read c) (s.aroundCs.withReader [] 0 (some (.pulse (s.out c.toNat))))
  | readn {m : Byte} (ready : s.initDone = true) :
      Answers s (.readn m)
        (s.aroundCs.withReader [] 0 (some (.batch ((List.range (prefixLength s.cfg m)).map s.out) s.vcc)))
  | setovr {c : Byte} {v : S16} (ready : s.initDone = true) :
      Answers s (.setovr c v) ((s.override c.toNat v).handBack (.applied (s.overrideApplied c.toNat v)))
  | setovrs {vs : List S16} {len : Byte} (ready : s.initDone = true) :
      Answers s (.setovrs vs len)
        ((s.overrideEach 0 (vs.take len.toNat) false).1.handBack (.applied (someApplied s.cfg.n 0 (vs.take len.toNat))))
  | clrovr (ready : s.initDone = true) : Answers s .clrovr (s.clearOvr.handBack .done)
  | csEnter : Answers s .csEnter s.enterCs
  | csExit : Answers s .csExit s.exitCs
  | init (early : s.initDone = false) : Answers s .init { s.clearOvr with initDone := true }
  | reset (early : s.initDone = false) : Answers s .reset s.systemStart

theorem answers_frame (s : State) {i : Instr} (port : i.port = .wire) {id high low : Byte} {t : State}
    (h : exec (.frame id high low) s = .next t) : Answers s i t := by
  rw [exec_frame] at h
  injection h with h
  subst h
  exact .wire port _ _ _ _ _ _ _ (.inr ⟨id, high, low, rfl⟩)

theorem answers_skip (s : State) (b : Byte) : Answers s (.skip b) (s.scanByte b) := by
  cases m : markerAt s.w0 b with
  | true =>
    rw [scanByte_match m]
    exact .wire rfl _ _ _ _ _ _ _ (.inl rfl)
  | false =>
    rw [scanByte_noMatch m]
    exact .wire rfl _ _ _ _ _ _ _ (.inl rfl)

/-- R142: an operation that answers was issued after INIT. -/
theorem ready_of_next {s t : State} {i : Instr} (needs : i.needsInit = true) (h : exec i s = .next t) :
    s.initDone = true := by
  by_contra early
  rw [operationsBeforeInitAreRefused s i needs (Bool.eq_false_iff.mpr early)] at h
  cases h

/-- R142: INIT or a reset event that answers was issued before INIT had completed. -/
theorem early_of_next {s t : State} {i : Instr} (launch : i = .init ∨ i = .reset) (h : exec i s = .next t) :
    s.initDone = false := by
  by_contra late
  have ready : s.initDone = true := by simpa using late
  obtain rfl | rfl := launch
  · rw [exec_init_late ready] at h
    cases h
  · rw [exec_reset_late ready] at h
    cases h

/-- Where an instruction answers a next state, that is the state `Answers` gives it. -/
theorem answers_of_next {i : Instr} {s t : State} (h : exec i s = .next t) : Answers s i t := by
  have same : ∀ {u : State}, exec i s = .next u → Answers s i u → Answers s i t := by
    intro u hu a
    rw [hu] at h
    injection h with h
    exact h ▸ a
  cases i with
  | frame id high low => exact answers_frame s rfl h
  | frameT2 id high => exact answers_frame s rfl ((exec_frameT2 s id high).symm.trans h)
  | frameT1 id => exact answers_frame s rfl ((exec_frameT1 s id).symm.trans h)
  | frameT0 => exact answers_frame s rfl ((exec_frameT0 s).symm.trans h)
  | skip b => exact same (exec_skip s b) (answers_skip s b)
  | poll =>
    have ready := ready_of_next rfl h
    exact same (exec_poll_ready ready) (.poll ready)
  | numch =>
    have ready := ready_of_next rfl h
    exact same (execNumch_ready ready) (.numch ready)
  | read c =>
    have ready := ready_of_next rfl h
    by_cases existing : c.toNat < s.cfg.n
    · exact same (exec_read_existing ready existing) (.read ready existing)
    · have missing := Nat.le_of_not_lt existing
      exact same (exec_read_missing ready missing) (.readMissing ready missing)
  | readn m =>
    have ready := ready_of_next rfl h
    exact same (exec_readn_ready ready) (.readn ready)
  | setovr c v =>
    have ready := ready_of_next rfl h
    exact same (exec_setovr_ready c v ready) (.setovr ready)
  | setovrs vs len =>
    have ready := ready_of_next rfl h
    exact same (exec_setovrs_ready vs len ready) (.setovrs ready)
  | clrovr =>
    have ready := ready_of_next rfl h
    exact same (execClrovr_ready ready) (.clrovr ready)
  | csEnter => exact same (exec_csEnter s) .csEnter
  | csExit => exact same (exec_csExit s) .csExit
  | init =>
    have early := early_of_next (.inl rfl) h
    exact same (exec_init_early early) (.init early)
  | reset =>
    have early := early_of_next (.inr rfl) h
    exact same (exec_reset_early early) (.reset early)

/-- Settles O48: the launch premises are all that an instruction's meaning asks for. -/
theorem onlyTheLaunchPremisesStopAnInstruction : Obligations.OnlyTheLaunchPremisesStopAnInstruction := by
  intro s i
  constructor
  · rintro ⟨premise, launch⟩
    cases i with
    | frame id high low => exact ⟨_, exec_frame s id high low⟩
    | frameT2 id high => exact ⟨_, (exec_frameT2 s id high).trans (exec_frame s id high 0)⟩
    | frameT1 id => exact ⟨_, (exec_frameT1 s id).trans (exec_frame s id 0 0)⟩
    | frameT0 => exact ⟨_, (exec_frameT0 s).trans (exec_frame s 0 0 0)⟩
    | skip b => exact ⟨_, exec_skip s b⟩
    | csEnter => exact ⟨_, exec_csEnter s⟩
    | csExit => exact ⟨_, exec_csExit s⟩
    | init => exact ⟨_, exec_init_early (launch (.inl rfl))⟩
    | reset => exact ⟨_, exec_reset_early (launch (.inr rfl))⟩
    | poll | numch | read | readn | setovr | setovrs | clrovr => exact ⟨_, whenReady_ready (premise rfl)⟩
  · rintro ⟨t, answer⟩
    exact ⟨fun needs => ready_of_next needs answer, fun launch => early_of_next launch answer⟩

/-! ### The element steps of SETOVRS -/

/-- What SETOVR, the environment and the producer keep, the element steps keep. -/
theorem Survives.overrideEach {P : State → Prop} (keep : Survives P)
    (override : ∀ (s : State) (c : Nat) (v : S16), P s → P (s.override c v)) (vs : List S16) (s : State) (i : Nat)
    (r : Bool) (h : P s) : P (s.overrideEach i vs r).1 := by
  induction vs generalizing s i r with
  | nil => exact h
  | cons v vs ih =>
    cases vs with
    | nil => exact override s i v h
    | cons v' vs =>
      rw [overrideEach_cons]
      exact ih _ _ _ (keep.preempt _ (override s i v h))

/-! ### The parameters and the overrides -/

/-- R5: no instruction changes the parameters. -/
theorem answers_cfg {i : Instr} {s t : State} (a : Answers s i t) : t.cfg = s.cfg := by
  cases a with
  | wire | numch | readMissing | clrovr | csEnter | csExit | init | reset => rfl
  | poll => exact (raisePoll_frame s).cfg
  | read | readn => exact (aroundCs_frame s).1
  | setovr => exact override_cfg s _ _
  | setovrs => exact overrideEach_cfg _ s 0 false

theorem wait_frame (s : State) : ProducerFrame s s.wait := by
  unfold State.wait
  split
  · exact raisePoll_frame s
  · exact .refl s

/-- Settles O52. -/
theorem noStepChangesTheParameters : Obligations.NoStepChangesTheParameters := by
  intro s t h
  obtain ⟨-, rfl⟩ | ⟨bs, rest, -, rfl⟩ | ⟨p, bs, rest, i, -, -, run⟩ := step_cases h
  · exact (wait_frame s).cfg
  · rfl
  · have kept := answers_cfg (answers_of_next run)
    exact kept

/-- Settles O55. -/
theorem onlyOverrideOperationsChangeOverrides : Obligations.OnlyOverrideOperationsChangeOverrides := by
  intro s t i notSetovr notSetovrs notClrovr notInit notReset h
  cases answers_of_next h with
  | wire | numch | readMissing | csEnter | csExit => rfl
  | poll => exact (raisePoll_frame s).ovr
  | read | readn => exact (aroundCs_frame s).2.1
  | setovr => exact absurd rfl (notSetovr _ _)
  | setovrs => exact absurd rfl (notSetovrs _ _)
  | clrovr => exact absurd rfl notClrovr
  | init => exact absurd rfl notInit
  | reset => exact absurd rfl notReset

/-! ### The override table (R103) -/

theorem overridden_iff {s : State} {c : Nat} : s.overridden c = true ↔ s.readOvr c ≠ 0 :=
  bne_iff_ne

/-- An entry below the first channel of a run of SETOVRs keeps its value; from there on each takes the element at its
position, unless that is negative or there is none. -/
theorem storedAll_getD {n c : Nat} (vs : List S16) (ovr : List S16) (i : Nat) (len : ovr.length = n) (inRange : c < n) :
    (c < i → (storedAll n ovr i vs).getD c 0 = ovr.getD c 0) ∧
    (i ≤ c → (storedAll n ovr i vs).getD c 0 =
      match vs[c - i]? with
      | some v => if v.toInt < 0 then ovr.getD c 0 else v
      | none => ovr.getD c 0) := by
  induction vs generalizing ovr i with
  | nil => exact ⟨fun _ => rfl, fun _ => rfl⟩
  | cons v vs ih =>
    obtain ⟨below, above⟩ := ih (storedOvr n ovr i v) (i + 1) ((storedOvr_length ..).trans len)
    rw [storedAll]
    refine ⟨fun h => ?_, fun h => ?_⟩
    · rw [below (by omega), storedOvr_getD_other v (by omega)]
    · obtain rfl | later := Nat.eq_or_lt_of_le h
      · rw [below (by omega), storedOvr_getD_same v inRange len, Nat.sub_self]
        rfl
      · rw [above later, storedOvr_getD_other v (by omega), show c - i = c - (i + 1) + 1 by omega]
        rfl

/-- SETOVR of one channel leaves the others. -/
theorem override_readOvr_other {s : State} {c k : Nat} (v : S16) (other : c ≠ k) :
    (s.override c v).readOvr k = s.readOvr k := by
  rw [State.readOvr, override_ovr]
  exact storedOvr_getD_other v other

/-- The SETOVR row of R103's table. -/
theorem exec_setovr_row {s : State} {c : Byte} (v : S16) (len : s.ovr.length = s.cfg.n) (existing : c.toNat < s.cfg.n)
    (ready : s.initDone = true) :
    ∃ t, exec (.setovr c v) s = .next t ∧
      t.readOvr c.toNat = (if v.toInt < 0 then s.readOvr c.toNat else v) ∧
      t.vcc = (if 0 < v.toInt then s.cfg.sentinel else s.vcc) ∧
      t.ret = some (.applied (decide (0 < v.toInt))) := by
  refine ⟨_, exec_setovr_ready c v ready, ?_, ?_, ?_⟩
  · change (s.override c.toNat v).ovr.getD c.toNat 0 = _
    rw [override_ovr, storedOvr_getD_same v existing len]
    rfl
  · rw [handBack_vcc, override_vcc]
    simp [existing]
  · rw [handBack_ret, overrideApplied_eq]
    simp [existing]

/-- The rows of R103's table that leave a channel alone. -/
theorem readOvr_kept {s t : State} {i : Instr} {c : Byte} (notSetovr : ∀ v, i ≠ .setovr c v)
    (notSetovrs : ∀ vs len, i ≠ .setovrs vs len) (notClrovr : i ≠ .clrovr) (notInit : i ≠ .init)
    (notReset : i ≠ .reset) (h : exec i s = .next t) : t.readOvr c.toNat = s.readOvr c.toNat := by
  by_cases other : ∃ k v, i = .setovr k v
  · obtain ⟨k, v, rfl⟩ := other
    have differ : k.toNat ≠ c.toNat := fun same => notSetovr v (by rw [BitVec.eq_of_toNat_eq same])
    cases answers_of_next h with
    | setovr ready => exact override_readOvr_other v differ
    | wire port => cases port
  · have table := onlyOverrideOperationsChangeOverrides s t i (fun k v e => other ⟨k, v, e⟩) notSetovrs notClrovr
      notInit notReset h
    rw [State.readOvr, table]
    rfl

/-- Settles O38, a row of the table at a time. -/
theorem everyChannelFollowsTheOverrideTable : Obligations.EveryChannelFollowsTheOverrideTable := by
  intro s c len existing
  refine ⟨overridden_iff, ?_, ?_, ?_, ?_, ?_⟩
  · intro v ready
    obtain ⟨t, run, entry, count, result⟩ := exec_setovr_row v len existing ready
    refine ⟨t, run, ?_⟩
    obtain negative | rfl | positive := overrideValue_cases v
    · rw [if_pos negative] at entry ⊢
      rw [if_neg (by omega)] at count
      rw [decide_eq_false (by omega)] at result
      exact ⟨congrArg (· != 0) entry, entry, count, result⟩
    · exact ⟨overridden_eq_false_iff.mpr entry, entry, count, result⟩
    · have nonzero := ne_zero_of_positive positive
      rw [if_neg (by omega)] at entry
      rw [if_neg (by omega), if_neg nonzero]
      rw [if_pos positive] at count
      rw [decide_eq_true positive] at result
      exact ⟨overridden_iff.mpr (entry.trans_ne nonzero), entry, count, result⟩
  · intro vs length ready whole
    refine ⟨_, exec_setovrs_ready vs length ready, ?_⟩
    rw [State.readOvr, handBack_ovr, (overrideEach_stored ..).1, ← whole, List.take_length]
    exact (storedAll_getD vs s.ovr 0 len existing).2 (Nat.zero_le _)
  · intro ready
    have entry : (s.clearOvr.handBack .done).readOvr c.toNat = 0 := clearOvr_readOvr s c.toNat
    exact ⟨_, execClrovr_ready ready, overridden_eq_false_iff.mpr entry, entry, rfl, rfl⟩
  · intro early
    exact ⟨_, exec_init_early early, overridden_eq_false_iff.mpr (clearOvr_readOvr s c.toNat)⟩
  · intro t i notSetovr notSetovrs notClrovr notInit notReset h
    have entry := readOvr_kept notSetovr notSetovrs notClrovr notInit notReset h
    exact ⟨entry, congrArg (· != 0) entry⟩

/-! ### Captured entries (R10) -/

/-- Entry `k` has been captured. -/
def State.Captured (k : Nat) (s : State) : Prop := s.readCb k ≠ 0

/-- Committing any frame leaves a non-zero entry non-zero. -/
theorem committed_getD_ne_zero {n k : Nat} {cb : List U16} (id high low : Byte) (h : cb.getD k 0 ≠ 0) :
    (committed n cb id high low).getD k 0 ≠ 0 := by
  cases c : commits n id high low with
  | false =>
    rw [committed_of_discards c]
    exact h
  | true =>
    by_cases other : k = id.toNat - 1
    · have inside : k < cb.length := by
        by_contra outside
        exact h (by simp [List.getD_eq_getElem?_getD, Nat.le_of_not_lt outside])
      rw [committed_of_commits c, ← other, List.getD_eq_getElem?_getD, List.getElem?_set_self inside, Option.getD_some]
      exact joinBytes_ne_zero_of_commits c
    · rw [committed_getD_other other]
      exact h

theorem captured_survives (k : Nat) : Survives (State.Captured k) where
  environment _ _ _ _ h := h
  poll s h := by
    rw [State.Captured, State.readCb, runPoll_cb]
    exact pollFunction_preserves (P := fun cb => cb.getD k 0 ≠ 0)
      (fun _ id high low => committed_getD_ne_zero id high low) s.w1 s.w0 s.cb s.rxq h

theorem override_captured {k : Nat} (s : State) (c : Nat) (v : S16) (h : s.Captured k) :
    (s.override c v).Captured k := by
  rw [State.Captured, State.readCb, override_cb]
  exact h

/-- Settles O53: the only writes of the capture buffer are commits, but for the reset event. -/
theorem capturedEntriesNeverReturnToZero : Obligations.CapturedEntriesNeverReturnToZero := by
  intro s t i k notReset h captured
  cases answers_of_next h with
  | wire port w1 w0 cb ph fId fHi fLo written =>
    obtain rfl | ⟨id, high, low, rfl⟩ := written
    · exact captured
    · exact committed_getD_ne_zero id high low captured
  | poll => exact (captured_survives k).raisePoll s captured
  | numch | readMissing | clrovr | csEnter | csExit | init => exact captured
  | read | readn => exact (captured_survives k).aroundCs (fun _ h => h) s captured
  | setovr => exact override_captured s _ _ captured
  | setovrs => exact (captured_survives k).overrideEach override_captured _ s 0 false captured
  | reset => exact absurd rfl notReset

/-- INIT stays completed. -/
theorem answers_initDone {i : Instr} {s t : State} (a : Answers s i t) (ready : s.initDone = true) :
    t.initDone = true := by
  have done_survives : Survives fun u => u.initDone = true :=
    ⟨fun _ _ _ _ h => h, fun u h => (runPoll_frame u).initDone.trans h⟩
  cases a with
  | wire | numch | readMissing | clrovr | csEnter | csExit => exact ready
  | poll => exact (raisePoll_frame s).initDone.trans ready
  | read | readn => exact (aroundCs_frame s).2.2.1.trans ready
  | setovr => exact (override_initDone s _ _).trans ready
  | setovrs =>
    exact done_survives.overrideEach (fun u c v h => (override_initDone u c v).trans h) _ s 0 false ready
  | init => rfl
  | reset early => exact absurd ready (Bool.eq_false_iff.mp early)

/-- Settles O49: RESET is refused once INIT has completed, so O53's exception does not arise. -/
theorem noStepReturnsALaunchedBlockToReset : Obligations.NoStepReturnsALaunchedBlockToReset := by
  intro s t ready h
  obtain ⟨-, rfl⟩ | ⟨bs, rest, -, rfl⟩ | ⟨p, bs, rest, i, -, -, run⟩ := step_cases h
  · exact ⟨(wait_frame s).initDone.trans ready, fun k captured => (captured_survives k).wait s captured⟩
  · exact ⟨ready, fun _ captured => captured⟩
  · refine ⟨answers_initDone (answers_of_next run) ready, fun k captured => ?_⟩
    refine capturedEntriesNeverReturnToZero _ t i k ?_ run captured
    rintro rfl
    have early := early_of_next (.inr rfl) run
    exact absurd ready (Bool.eq_false_iff.mp early)

/-! ### The producer's registers (R129) -/

/-- Between two states, the producer's registers are the same, and VCC is the same or the sentinel. -/
structure ProducerKept (s t : State) : Prop where
  cb : t.cb = s.cb
  w1 : t.w1 = s.w1
  w0 : t.w0 = s.w0
  rxq : t.rxq = s.rxq
  held : t.held = s.held
  vcc : t.vcc = s.vcc ∨ t.vcc = s.cfg.sentinel

theorem override_producerKept {s t : State} (c : Nat) (v : S16) (cfg : t.cfg = s.cfg) (h : ProducerKept s t) :
    ProducerKept s (t.override c v) := by
  rw [override_eq]
  refine ⟨h.cb, h.w1, h.w0, h.rxq, h.held, ?_⟩
  by_cases applied : 0 < v.toInt ∧ c < t.cfg.n
  · exact .inr ((if_pos applied).trans (by rw [cfg]))
  · rw [if_neg applied]
    exact h.vcc

theorem overrideAll_producerKept {s : State} (vs : List S16) (t : State) (i : Nat) (cfg : t.cfg = s.cfg)
    (h : ProducerKept s t) : ProducerKept s (t.overrideAll i vs) := by
  induction vs generalizing t i with
  | nil => exact h
  | cons v vs ih => exact ih _ _ ((override_cfg t i v).trans cfg) (override_producerKept i v cfg h)

/-- Settles O54: with an empty agenda the reads set their own registers only, and SETOVRS is SETOVR of each element. -/
theorem onlyTheProducerWritesItsState : Obligations.OnlyTheProducerWritesItsState := by
  intro s t i port quiet h
  have start : ProducerKept s s := ⟨rfl, rfl, rfl, rfl, rfl, .inl rfl⟩
  suffices kept : ProducerKept s t from ⟨kept.cb, kept.w1, kept.w0, kept.rxq, kept.held, kept.vcc⟩
  cases answers_of_next h with
  | wire onWire => simp [onWire] at port
  | poll | reset => simp [Instr.port] at port
  | numch | readMissing | clrovr | csEnter | csExit | init => exact ⟨rfl, rfl, rfl, rfl, rfl, .inl rfl⟩
  | read | readn =>
    rw [aroundCs_quiet quiet]
    exact ⟨rfl, rfl, rfl, rfl, rfl, .inl rfl⟩
  | setovr =>
    obtain ⟨cb, w1, w0, rxq, held, vcc⟩ := override_producerKept _ _ rfl start
    exact ⟨cb, w1, w0, rxq, held, vcc⟩
  | setovrs =>
    rw [overrideEach_quiet _ s 0 false quiet]
    obtain ⟨cb, w1, w0, rxq, held, vcc⟩ := overrideAll_producerKept _ s 0 rfl start
    exact ⟨cb, w1, w0, rxq, held, vcc⟩

/-! ### The count without overrides (R19 a) -/

/-- VCC is 0 or N. -/
def State.CountWhole (s : State) : Prop := s.vcc = 0 ∨ s.vcc = BitVec.ofNat 8 s.cfg.n

theorem countWhole_survives : Survives State.CountWhole where
  environment _ _ _ _ h := h
  poll s _ := by
    rw [State.CountWhole, runPoll_cfg]
    exact runPoll_count s

/-- Settles O56. -/
theorem countIsNeverPartialWithoutOverrides : Obligations.CountIsNeverPartialWithoutOverrides := by
  intro s t i notSetovr notSetovrs whole h
  have a := answers_of_next h
  rw [← answers_cfg a]
  change t.CountWhole
  cases a with
  | wire | numch | readMissing | clrovr | csEnter | csExit | init => exact whole
  | poll => exact countWhole_survives.raisePoll s whole
  | read | readn => exact countWhole_survives.aroundCs (fun _ h => h) s whole
  | setovr => exact absurd rfl (notSetovr _ _)
  | setovrs => exact absurd rfl (notSetovrs _ _)
  | reset => exact .inl rfl

end Sys2Proof.Machine
end

section
/-! PROOFS. The invariant of R19: it holds at reset, and every step keeps it. -/

namespace Sys2Proof.Machine

/-! ### What keeps the invariant -/

/-- The invariant looks at VCC, OVR and the script by its clauses on them alone, and at neither the environment's other
fields nor the result. -/
theorem State.Inv.update {s : State} {vcc : Byte} {ovr : List S16} {script : List Item} {initDone held : Bool}
    {rxq : List Byte} {agenda : List (List EnvEvent)} {ret : Option Result} (inv : s.Inv)
    (count : vcc = 0 ∨ vcc = BitVec.ofNat 8 s.cfg.n ∨ vcc = s.cfg.sentinel) (len : ovr.length = s.cfg.n)
    (nonneg : ∀ v ∈ ovr, 0 ≤ v.toInt) (external : script.all Item.external = true) :
    State.Inv
      { s with
        vcc := vcc, ovr := ovr, script := script, initDone := initDone, held := held, rxq := rxq, agenda := agenda
        ret := ret } :=
  ⟨inv.cfg, inv.cbLength, len, count, nonneg, inv.lock,
    ⟨inv.rest.ph, inv.rest.fId, inv.rest.fHi, inv.rest.fLo, inv.rest.anyByte, inv.rest.snap, inv.rest.snapV⟩,
    external⟩

theorem runPoll_atRest {s : State} (rest : s.AtRest) : s.runPoll.AtRest := by
  rw [runPoll_eq]
  exact ⟨rfl, rfl, rfl, rfl, rfl, rest.snap, rest.snapV⟩

theorem inv_survives : Survives State.Inv where
  environment _ _ _ _ inv := inv.update inv.vcc inv.ovrLength inv.ovr inv.script
  poll s inv := by
    obtain ⟨cfg, ovr, lock, -, -, -, script, -⟩ := runPoll_frame s
    refine ⟨by rw [cfg]; exact inv.cfg, ?_, ?_, countKnown_survives.poll s inv.vcc, ?_, lock.trans inv.lock,
      runPoll_atRest inv.rest, ?_⟩
    · rw [runPoll_cbLength, cfg]
      exact inv.cbLength
    · rw [ovr, cfg]
      exact inv.ovrLength
    · rw [ovr]
      exact inv.ovr
    · rw [State.scriptExternal, script]
      exact inv.script

/-- The result may be anything. -/
theorem State.Inv.withRet {s : State} (r : Option Result) (inv : s.Inv) : State.Inv { s with ret := r } :=
  inv.update inv.vcc inv.ovrLength inv.ovr inv.script

/-- A script that only outside agents wrote stays so when its first item is taken off. -/
theorem State.Inv.scriptRest {s : State} {item : Item} {items : List Item} (inv : s.Inv)
    (head : s.script = item :: items) :
    State.Inv { s with script := items } := by
  have external : (item.external && items.all Item.external) = true := by
    have all := inv.script
    rwa [State.scriptExternal, head, List.all_cons] at all
  exact inv.update inv.vcc inv.ovrLength inv.ovr (Bool.and_eq_true_iff.mp external).2

/-- Outside a critical section LOCK is 0 already, so a read keeps what the environment and the producer keep. -/
theorem State.Inv.aroundCs {s : State} (inv : s.Inv) : s.aroundCs.Inv := by
  have unlocked : s.pastCs.Inv := by
    rw [State.pastCs, ← inv.lock]
    exact inv_survives.environment s _ _ _ inv
  rw [aroundCs_eq]
  exact inv_survives.preempt _ unlocked

theorem State.Inv.withReader {s : State} (r : Option Result) (inv : s.Inv) : (s.withReader [] 0 r).Inv := by
  rw [withReader_atRest r inv.rest.snap inv.rest.snapV]
  exact inv.withRet r

/-- R61: SETOVR stores no negative value. -/
theorem storedOvr_nonneg {n : Nat} {ovr : List S16} (c : Nat) (v : S16) (h : ∀ x ∈ ovr, 0 ≤ x.toInt) :
    ∀ x ∈ storedOvr n ovr c v, 0 ≤ x.toInt := by
  by_cases rejected : v.toInt < 0 ∨ n ≤ c
  · rw [storedOvr_rejected _ rejected]
    exact h
  · rw [storedOvr_stored _ (by omega) (by omega)]
    intro x inside
    obtain old | rfl := List.mem_or_eq_of_mem_set inside
    · exact h x old
    · omega

theorem State.Inv.override (s : State) (c : Nat) (v : S16) (inv : s.Inv) : (s.override c v).Inv := by
  have count := override_countKnown c v inv.vcc
  rw [override_eq] at count ⊢
  exact inv.update count ((storedOvr_length ..).trans inv.ovrLength) (storedOvr_nonneg c v inv.ovr) inv.script

theorem zeroTable_nonneg (n : Nat) : ∀ v ∈ List.replicate n (0 : S16), 0 ≤ v.toInt := by
  intro v inside
  rw [List.eq_of_mem_replicate inside]
  decide

/-- The zero override table, whether INIT has completed or not. -/
theorem State.Inv.clearOvr {s : State} (done : Bool) (inv : s.Inv) : State.Inv { s.clearOvr with initDone := done } :=
  inv.update inv.vcc List.length_replicate (zeroTable_nonneg s.cfg.n) inv.script

theorem systemStart_inv {s : State} (wf : s.cfg.wf = true) (script : s.scriptExternal = true) : s.systemStart.Inv :=
  ⟨wf, List.length_replicate, List.length_replicate, .inl rfl, zeroTable_nonneg s.cfg.n, rfl, systemStart_atRest s,
    script⟩

/-- Settles O51. -/
theorem resetHasTheInvariant : Obligations.ResetHasTheInvariant :=
  systemStart_inv (s := State.reset) ofThisBlock_wf rfl

/-! ### Every step -/

/-- Every instruction that an agent outside the block can raise keeps the invariant. -/
theorem State.Inv.answers {i : Instr} {s t : State} (external : i.port.external = true) (inv : s.Inv)
    (a : Answers s i t) : t.Inv := by
  cases a with
  | wire port =>
    rw [port] at external
    cases external
  | csEnter | csExit => cases external
  | poll => exact inv_survives.raisePoll s inv
  | numch | readMissing => exact inv.withRet _
  | read | readn => exact inv.aroundCs.withReader _
  | setovr => exact (State.Inv.override s _ _ inv).withRet _
  | setovrs => exact (inv_survives.overrideEach State.Inv.override _ s 0 false inv).withRet _
  | clrovr => exact (inv.clearOvr s.initDone).withRet _
  | init => exact inv.clearOvr true
  | reset => exact systemStart_inv inv.cfg inv.script

/-- What the decoder answers on an external port is an operation of that port (O2). -/
theorem decodeWhole_port {p : Port} {bs : List Byte} {i : Instr} (h : decodeWhole p bs = .ok i) : i.port = p :=
  (encodeOfDecodeIsTheBytes p bs i [] (decodeWhole_ok.mp h)).2.1

/-- Settles O50: a step waits, takes arriving bytes, or runs an instruction, which an external script holds on an
external port. -/
theorem everyStepKeepsTheInvariant : Obligations.EveryStepKeepsTheInvariant := by
  intro s t inv h
  obtain ⟨-, rfl⟩ | ⟨bs, items, head, rfl⟩ | ⟨p, bs, items, i, head, decodes, run⟩ := step_cases h
  · exact inv_survives.wait s inv
  · exact inv_survives.environment _ _ _ _ (inv.scriptRest head)
  · have external : i.port.external = true := by
      have all := inv.script
      rw [State.scriptExternal, head, List.all_cons, Bool.and_eq_true] at all
      rw [decodeWhole_port decodes]
      exact all.1
    exact State.Inv.answers external (inv.scriptRest head) (answers_of_next run)

end Sys2Proof.Machine
end
